-- ==== Sys2Proof/Word.lean ====
section
/-! DEFINITION. The two word sizes of the machine: bytes (8-bit registers, memory and port data) and
16-bit words (addresses, register pairs), spec/00_scope.md R5, R6. Arithmetic on both wraps, as BitVec's does. -/

namespace Sys2Proof

/-- An 8-bit value: a register, a memory byte, a byte on the data bus (spec/10_state.md R20, spec/20_memory.md R70). -/
abbrev Byte := BitVec 8

/-- A 16-bit value: an address, a register pair, an index register (spec/10_state.md R21, R23 to R25). -/
abbrev Word := BitVec 16

end Sys2Proof
end

