-- ==== Sys2Proof/Config.lean ====
section
/-! DEFINITION. What the spec leaves free, and what the part number fixes. -/

namespace Sys2Proof

/-- The free values: the n-th byte whose value the spec leaves open (UNSPECIFIED, spec/00_scope.md R11: any value,
possibly different on every execution). It has no body, so nothing about a free value can be proved that does not
hold of every byte. DESIGN CHOICE, safe (log entry 5). -/
opaque Config.freeByte : Nat → Byte

/-- The two part numbers (spec/00_scope.md R3). No instruction behaves differently between them. -/
inductive Variant where
  | tmpz84c01f
  | tmpz84c02af6
deriving DecidableEq, Repr

/-- The clock frequency for an oscillator frequency: equal on the 01F, half on the 02AF-6 (spec/00_scope.md R3,
spec/70_reset_and_hazards.md R540). -/
def Variant.clockFrequency : Variant → Nat → Nat
  | .tmpz84c01f, fosc => fosc
  | .tmpz84c02af6, fosc => fosc / 2

end Sys2Proof
end

