-- ==== Sys2Proof/Machine/Bits.lean ====
section
/-! DEFINITION. Bit-field, byte-order, sign-extension and parity helpers (spec/00_scope.md R5 to R8). -/

namespace Sys2Proof

/-- `hi : lo`, the word with high byte hi (spec/00_scope.md R5). -/
def joinBytes (hi lo : Byte) : Word := hi ++ lo

/-- Bits 15:8 of a word. -/
def hiByte (w : Word) : Byte := w.extractLsb' 8 8

/-- Bits 7:0 of a word. -/
def loByte (w : Word) : Byte := w.extractLsb' 0 8

/-- `sext_16(v)`: two's complement extension of a byte to a word (spec/00_scope.md R7). -/
def sext16 (v : Byte) : Word := v.signExtend 16

/-- `zext_16(v)`: the word with high byte 00H (spec/00_scope.md R7). -/
def zext16 (v : Byte) : Word := v.zeroExtend 16

/-- How many of the eight bits of v are 1. -/
def onesCount (v : Byte) : Nat :=
  (v.getLsbD 0).toNat + (v.getLsbD 1).toNat + (v.getLsbD 2).toNat + (v.getLsbD 3).toNat
    + (v.getLsbD 4).toNat + (v.getLsbD 5).toNat + (v.getLsbD 6).toNat + (v.getLsbD 7).toNat

/-- `parity8(v)`: true when the number of 1 bits is even (spec/00_scope.md R8). -/
def parity8 (v : Byte) : Bool := onesCount v % 2 == 0

end Sys2Proof
end

