-- ==== Sys2Proof/Syntax.lean ====
section
/-! DEFINITION. The instructions: one constructor per row of spec/opcode_table.json (202 rows), with the operands the
row's fields hold (spec/30_encoding.md R112 to R123). An operand form the spec gives a rule of its own is an
instruction of its own: `LD r,(HL)` is not `LD r,r'` with a register called (HL). -/

namespace Sys2Proof

/-- The 8-bit register a 3-bit field r selects (spec/30_encoding.md R112). Code 110 is no register: it has no
constructor. -/
inductive R8 where
  | b
  | c
  | d
  | e
  | h
  | l
  | a
deriving DecidableEq, Repr

/-- Register pair field dd, also written ss (spec/30_encoding.md R113). -/
inductive RegDD where
  | bc
  | de
  | hl
  | sp
deriving DecidableEq, Repr

/-- Register pair field qq of PUSH and POP (spec/30_encoding.md R114). -/
inductive RegQQ where
  | bc
  | de
  | hl
  | af
deriving DecidableEq, Repr

/-- Register pair field pp of ADD IX,pp (spec/30_encoding.md R115). -/
inductive RegPP where
  | bc
  | de
  | ix
  | sp
deriving DecidableEq, Repr

/-- Register pair field rr of ADD IY,rr (spec/30_encoding.md R116). -/
inductive RegRR where
  | bc
  | de
  | iy
  | sp
deriving DecidableEq, Repr

/-- Condition field cc (spec/30_encoding.md R117; spec/10_state.md R36). -/
inductive Cond where
  | nz
  | z
  | nc
  | c
  | po
  | pe
  | p
  | m
deriving DecidableEq, Repr

/-- The instruction set. Each constructor's docstring is the row's mnemonic in Zilog syntax (spec/30_encoding.md R138)
and the rule that gives its meaning. `b` is a bit number (R118), `p` a restart address (R119), `n` an immediate byte
(R120), `nn` an immediate word (R121), `d` and `e` displacement bytes as they stand in the instruction (R122, R123). -/
inductive Instr where
  -- spec/40_load8.md: 8-bit loads
  /-- LD r,r' (R150) -/
  | ldRR (rd : R8) (rs : R8)
  /-- LD r,n (R151) -/
  | ldRN (r : R8) (n : Byte)
  /-- LD r,(HL) (R152) -/
  | ldRAtHl (r : R8)
  /-- LD r,(IX+d) (R153) -/
  | ldRAtIx (r : R8) (d : Byte)
  /-- LD r,(IY+d) (R154) -/
  | ldRAtIy (r : R8) (d : Byte)
  /-- LD (HL),r (R155) -/
  | ldAtHlR (r : R8)
  /-- LD (IX+d),r (R156) -/
  | ldAtIxR (d : Byte) (r : R8)
  /-- LD (IY+d),r (R157) -/
  | ldAtIyR (d : Byte) (r : R8)
  /-- LD (HL),n (R158) -/
  | ldAtHlN (n : Byte)
  /-- LD (IX+d),n (R159) -/
  | ldAtIxN (d : Byte) (n : Byte)
  /-- LD (IY+d),n (R160) -/
  | ldAtIyN (d : Byte) (n : Byte)
  /-- LD A,(BC) (R161) -/
  | ldAAtBc
  /-- LD A,(DE) (R162) -/
  | ldAAtDe
  /-- LD A,(nn) (R163) -/
  | ldAAtNn (nn : Word)
  /-- LD (BC),A (R164) -/
  | ldAtBcA
  /-- LD (DE),A (R165) -/
  | ldAtDeA
  /-- LD (nn),A (R166) -/
  | ldAtNnA (nn : Word)
  /-- LD A,I (R167) -/
  | ldAI
  /-- LD A,R (R168) -/
  | ldAR
  /-- LD I,A (R169) -/
  | ldIA
  /-- LD R,A (R170) -/
  | ldRA
  -- spec/41_load16.md: 16-bit loads, push, pop
  /-- LD dd,nn (R180) -/
  | ldDdNn (dd : RegDD) (nn : Word)
  /-- LD IX,nn (R181) -/
  | ldIxNn (nn : Word)
  /-- LD IY,nn (R182) -/
  | ldIyNn (nn : Word)
  /-- LD HL,(nn) (R183) -/
  | ldHlAtNn (nn : Word)
  /-- LD dd,(nn) (R184) -/
  | ldDdAtNn (dd : RegDD) (nn : Word)
  /-- LD IX,(nn) (R185) -/
  | ldIxAtNn (nn : Word)
  /-- LD IY,(nn) (R186) -/
  | ldIyAtNn (nn : Word)
  /-- LD (nn),HL (R187) -/
  | ldAtNnHl (nn : Word)
  /-- LD (nn),dd (R188) -/
  | ldAtNnDd (nn : Word) (dd : RegDD)
  /-- LD (nn),IX (R189) -/
  | ldAtNnIx (nn : Word)
  /-- LD (nn),IY (R190) -/
  | ldAtNnIy (nn : Word)
  /-- LD SP,HL (R191) -/
  | ldSpHl
  /-- LD SP,IX (R192) -/
  | ldSpIx
  /-- LD SP,IY (R193) -/
  | ldSpIy
  /-- PUSH qq (R194) -/
  | pushQq (qq : RegQQ)
  /-- PUSH IX (R195) -/
  | pushIx
  /-- PUSH IY (R196) -/
  | pushIy
  /-- POP qq (R197) -/
  | popQq (qq : RegQQ)
  /-- POP IX (R198) -/
  | popIx
  /-- POP IY (R199) -/
  | popIy
  -- spec/42_exchange_block.md: exchange, block transfer and search
  /-- EX DE,HL (R210) -/
  | exDeHl
  /-- EX AF,AF' (R211) -/
  | exAf
  /-- EXX (R212) -/
  | exx
  /-- EX (SP),HL (R213) -/
  | exSpHl
  /-- EX (SP),IX (R214) -/
  | exSpIx
  /-- EX (SP),IY (R215) -/
  | exSpIy
  /-- LDI (R216) -/
  | ldi
  /-- LDIR (R217) -/
  | ldir
  /-- LDD (R218) -/
  | ldd
  /-- LDDR (R219) -/
  | lddr
  /-- CPI (R220) -/
  | cpi
  /-- CPIR (R221) -/
  | cpir
  /-- CPD (R222) -/
  | cpd
  /-- CPDR (R223) -/
  | cpdr
  -- spec/43_arith8.md: 8-bit arithmetic and logic
  /-- ADD A,r (R234) -/
  | addAR (r : R8)
  /-- ADD A,n (R235) -/
  | addAN (n : Byte)
  /-- ADD A,(HL) (R236) -/
  | addAAtHl
  /-- ADD A,(IX+d) (R237) -/
  | addAAtIx (d : Byte)
  /-- ADD A,(IY+d) (R238) -/
  | addAAtIy (d : Byte)
  /-- ADC A,r (R239) -/
  | adcAR (r : R8)
  /-- ADC A,n (R240) -/
  | adcAN (n : Byte)
  /-- ADC A,(HL) (R241) -/
  | adcAAtHl
  /-- ADC A,(IX+d) (R242) -/
  | adcAAtIx (d : Byte)
  /-- ADC A,(IY+d) (R243) -/
  | adcAAtIy (d : Byte)
  /-- SUB r (R244) -/
  | subR (r : R8)
  /-- SUB n (R245) -/
  | subN (n : Byte)
  /-- SUB (HL) (R246) -/
  | subAtHl
  /-- SUB (IX+d) (R247) -/
  | subAtIx (d : Byte)
  /-- SUB (IY+d) (R248) -/
  | subAtIy (d : Byte)
  /-- SBC A,r (R249) -/
  | sbcAR (r : R8)
  /-- SBC A,n (R250) -/
  | sbcAN (n : Byte)
  /-- SBC A,(HL) (R251) -/
  | sbcAAtHl
  /-- SBC A,(IX+d) (R252) -/
  | sbcAAtIx (d : Byte)
  /-- SBC A,(IY+d) (R253) -/
  | sbcAAtIy (d : Byte)
  /-- AND r (R254) -/
  | andR (r : R8)
  /-- AND n (R255) -/
  | andN (n : Byte)
  /-- AND (HL) (R256) -/
  | andAtHl
  /-- AND (IX+d) (R257) -/
  | andAtIx (d : Byte)
  /-- AND (IY+d) (R258) -/
  | andAtIy (d : Byte)
  /-- XOR r (R259) -/
  | xorR (r : R8)
  /-- XOR n (R260) -/
  | xorN (n : Byte)
  /-- XOR (HL) (R261) -/
  | xorAtHl
  /-- XOR (IX+d) (R262) -/
  | xorAtIx (d : Byte)
  /-- XOR (IY+d) (R263) -/
  | xorAtIy (d : Byte)
  /-- OR r (R264) -/
  | orR (r : R8)
  /-- OR n (R265) -/
  | orN (n : Byte)
  /-- OR (HL) (R266) -/
  | orAtHl
  /-- OR (IX+d) (R267) -/
  | orAtIx (d : Byte)
  /-- OR (IY+d) (R268) -/
  | orAtIy (d : Byte)
  /-- CP r (R269) -/
  | cpR (r : R8)
  /-- CP n (R270) -/
  | cpN (n : Byte)
  /-- CP (HL) (R271) -/
  | cpAtHl
  /-- CP (IX+d) (R272) -/
  | cpAtIx (d : Byte)
  /-- CP (IY+d) (R273) -/
  | cpAtIy (d : Byte)
  /-- INC r (R274) -/
  | incR (r : R8)
  /-- INC (HL) (R275) -/
  | incAtHl
  /-- INC (IX+d) (R276) -/
  | incAtIx (d : Byte)
  /-- INC (IY+d) (R277) -/
  | incAtIy (d : Byte)
  /-- DEC r (R278) -/
  | decR (r : R8)
  /-- DEC (HL) (R279) -/
  | decAtHl
  /-- DEC (IX+d) (R280) -/
  | decAtIx (d : Byte)
  /-- DEC (IY+d) (R281) -/
  | decAtIy (d : Byte)
  -- spec/44_general_cpu_control.md: general-purpose and CPU control
  /-- DAA (R290) -/
  | daa
  /-- CPL (R291) -/
  | cpl
  /-- NEG (R292) -/
  | neg
  /-- CCF (R293) -/
  | ccf
  /-- SCF (R294) -/
  | scf
  /-- NOP (R295) -/
  | nop
  /-- HALT (R296) -/
  | halt
  /-- DI (R297) -/
  | di
  /-- EI (R298) -/
  | ei
  /-- IM 0 (R299) -/
  | im0
  /-- IM 1 (R300) -/
  | im1
  /-- IM 2 (R301) -/
  | im2
  -- spec/45_arith16.md: 16-bit arithmetic
  /-- ADD HL,ss (R311) -/
  | addHlSs (dd : RegDD)
  /-- ADC HL,ss (R312) -/
  | adcHlSs (dd : RegDD)
  /-- SBC HL,ss (R313) -/
  | sbcHlSs (dd : RegDD)
  /-- ADD IX,pp (R314) -/
  | addIxPp (pp : RegPP)
  /-- ADD IY,rr (R315) -/
  | addIyRr (rr : RegRR)
  /-- INC ss (R316) -/
  | incSs (dd : RegDD)
  /-- INC IX (R317) -/
  | incIx
  /-- INC IY (R318) -/
  | incIy
  /-- DEC ss (R319) -/
  | decSs (dd : RegDD)
  /-- DEC IX (R320) -/
  | decIx
  /-- DEC IY (R321) -/
  | decIy
  -- spec/46_rotate_shift.md: rotates and shifts
  /-- RLCA (R332) -/
  | rlca
  /-- RLA (R333) -/
  | rla
  /-- RRCA (R334) -/
  | rrca
  /-- RRA (R335) -/
  | rra
  /-- RLC r (R336) -/
  | rlcR (r : R8)
  /-- RLC (HL) (R337) -/
  | rlcAtHl
  /-- RLC (IX+d) (R338) -/
  | rlcAtIx (d : Byte)
  /-- RLC (IY+d) (R339) -/
  | rlcAtIy (d : Byte)
  /-- RRC r (R340) -/
  | rrcR (r : R8)
  /-- RRC (HL) (R341) -/
  | rrcAtHl
  /-- RRC (IX+d) (R342) -/
  | rrcAtIx (d : Byte)
  /-- RRC (IY+d) (R343) -/
  | rrcAtIy (d : Byte)
  /-- RL r (R344) -/
  | rlR (r : R8)
  /-- RL (HL) (R345) -/
  | rlAtHl
  /-- RL (IX+d) (R346) -/
  | rlAtIx (d : Byte)
  /-- RL (IY+d) (R347) -/
  | rlAtIy (d : Byte)
  /-- RR r (R348) -/
  | rrR (r : R8)
  /-- RR (HL) (R349) -/
  | rrAtHl
  /-- RR (IX+d) (R350) -/
  | rrAtIx (d : Byte)
  /-- RR (IY+d) (R351) -/
  | rrAtIy (d : Byte)
  /-- SLA r (R352) -/
  | slaR (r : R8)
  /-- SLA (HL) (R353) -/
  | slaAtHl
  /-- SLA (IX+d) (R354) -/
  | slaAtIx (d : Byte)
  /-- SLA (IY+d) (R355) -/
  | slaAtIy (d : Byte)
  /-- SRA r (R356) -/
  | sraR (r : R8)
  /-- SRA (HL) (R357) -/
  | sraAtHl
  /-- SRA (IX+d) (R358) -/
  | sraAtIx (d : Byte)
  /-- SRA (IY+d) (R359) -/
  | sraAtIy (d : Byte)
  /-- SRL r (R360) -/
  | srlR (r : R8)
  /-- SRL (HL) (R361) -/
  | srlAtHl
  /-- SRL (IX+d) (R362) -/
  | srlAtIx (d : Byte)
  /-- SRL (IY+d) (R363) -/
  | srlAtIy (d : Byte)
  /-- RLD (R364) -/
  | rld
  /-- RRD (R365) -/
  | rrd
  -- spec/47_bit.md: bit set, reset, test
  /-- BIT b,r (R380) -/
  | bitBR (b : Nat) (r : R8)
  /-- BIT b,(HL) (R381) -/
  | bitBAtHl (b : Nat)
  /-- BIT b,(IX+d) (R382) -/
  | bitBAtIx (b : Nat) (d : Byte)
  /-- BIT b,(IY+d) (R383) -/
  | bitBAtIy (b : Nat) (d : Byte)
  /-- SET b,r (R384) -/
  | setBR (b : Nat) (r : R8)
  /-- SET b,(HL) (R385) -/
  | setBAtHl (b : Nat)
  /-- SET b,(IX+d) (R386) -/
  | setBAtIx (b : Nat) (d : Byte)
  /-- SET b,(IY+d) (R387) -/
  | setBAtIy (b : Nat) (d : Byte)
  /-- RES b,r (R388) -/
  | resBR (b : Nat) (r : R8)
  /-- RES b,(HL) (R389) -/
  | resBAtHl (b : Nat)
  /-- RES b,(IX+d) (R390) -/
  | resBAtIx (b : Nat) (d : Byte)
  /-- RES b,(IY+d) (R391) -/
  | resBAtIy (b : Nat) (d : Byte)
  -- spec/48_jump_call_return.md: jumps, calls, returns
  /-- JP nn (R400) -/
  | jpNn (nn : Word)
  /-- JP cc,nn (R401) -/
  | jpCcNn (cc : Cond) (nn : Word)
  /-- JR e (R402) -/
  | jrE (e : Byte)
  /-- JR C,e (R403) -/
  | jrCE (e : Byte)
  /-- JR NC,e (R404) -/
  | jrNcE (e : Byte)
  /-- JR Z,e (R405) -/
  | jrZE (e : Byte)
  /-- JR NZ,e (R406) -/
  | jrNzE (e : Byte)
  /-- JP (HL) (R407) -/
  | jpHl
  /-- JP (IX) (R408) -/
  | jpIx
  /-- JP (IY) (R409) -/
  | jpIy
  /-- DJNZ e (R410) -/
  | djnzE (e : Byte)
  /-- CALL nn (R411) -/
  | callNn (nn : Word)
  /-- CALL cc,nn (R412) -/
  | callCcNn (cc : Cond) (nn : Word)
  /-- RET (R413) -/
  | ret
  /-- RET cc (R414) -/
  | retCc (cc : Cond)
  /-- RETI (R415) -/
  | reti
  /-- RETN (R416) -/
  | retn
  /-- RST p (R417) -/
  | rstP (p : Byte)
  -- spec/49_io.md: input and output
  /-- IN A,(n) (R430) -/
  | inAN (n : Byte)
  /-- IN r,(C) (R431) -/
  | inRC (r : R8)
  /-- INI (R432) -/
  | ini
  /-- INIR (R433) -/
  | inir
  /-- IND (R434) -/
  | ind
  /-- INDR (R435) -/
  | indr
  /-- OUT (n),A (R436) -/
  | outNA (n : Byte)
  /-- OUT (C),r (R437) -/
  | outCR (r : R8)
  /-- OUTI (R438) -/
  | outi
  /-- OTIR (R439) -/
  | otir
  /-- OUTD (R440) -/
  | outd
  /-- OTDR (R441) -/
  | otdr
deriving DecidableEq, Repr

end Sys2Proof
end

