-- ==== Sys2Proof/Decode.lean ====
section
/-! DEFINITION. The decoder (spec/30_encoding.md R128): total on any bytes, rejecting by name; then the encoder, from
the same encodings (R111 to R134); then the two functions the host asks for. A decoder answers the instruction and the
bytes it did not use. -/

namespace Sys2Proof

/-- Why bytes are no instruction. -/
inductive Reject where
  /-- the bytes end inside an instruction: the decoder needs one more -/
  | truncated
  /-- CB b1 is unassigned (spec/30_encoding.md R124, R139 (b)) -/
  | unassignedCB (b1 : Byte)
  /-- ED b1 is unassigned (R125, R132, R139 (c)) -/
  | unassignedED (b1 : Byte)
  /-- DD b1 or FD b1 is unassigned; p is the first byte (R126, R133, R139 (d)) -/
  | unassignedXY (p b1 : Byte)
  /-- DD CB d b3 or FD CB d b3 is unassigned; p is the first byte (R127, R134, R139 (e)) -/
  | unassignedXYCB (p d b3 : Byte)
deriving DecidableEq, Repr

/-- What a decoder answers: an instruction and the bytes after it, or why there is none. -/
abbrev Decoded := Except Reject (Instr × List Byte)

/-- An instruction without operand bytes. -/
def opNone (i : Instr) (rest : List Byte) : Decoded := .ok (i, rest)

/-- An instruction whose operand is the next byte (n, d or e; R120, R122, R123). -/
def opByte (k : Byte → Instr) : List Byte → Decoded
  | v :: rest => .ok (k v, rest)
  | [] => .error .truncated

/-- An instruction whose operand is the next two bytes, the low one first (R121). -/
def opWord (k : Word → Instr) : List Byte → Decoded
  | lo :: hi :: rest => .ok (k (joinBytes hi lo), rest)
  | _ => .error .truncated

/-- An instruction with a displacement byte and then an immediate byte (LD (IX+d),n; R159). -/
def opTwo (k : Byte → Byte → Instr) : List Byte → Decoded
  | d :: n :: rest => .ok (k d n, rest)
  | _ => .error .truncated

/-- Bits 7:6 of a byte. -/
def fieldX (v : Byte) : Nat := v.toNat / 64

/-- Bits 5:3 of a byte (the fields r, cc, b, t and ooo). -/
def fieldY (v : Byte) : Nat := v.toNat / 8 % 8

/-- Bits 2:0 of a byte (the second register field). -/
def fieldZ (v : Byte) : Nat := v.toNat % 8

/-- Bits 5:4 of a byte (the register pair fields). -/
def fieldP (v : Byte) : Nat := v.toNat / 16 % 4

/-- Field r (spec/30_encoding.md R112): none for code 110, the memory operand. -/
def decodeR8 : Nat → Option R8
  | 0 => some .b
  | 1 => some .c
  | 2 => some .d
  | 3 => some .e
  | 4 => some .h
  | 5 => some .l
  | 7 => some .a
  | _ => none

/-- Field dd (R113). -/
def decodeDD : Nat → RegDD
  | 0 => .bc
  | 1 => .de
  | 2 => .hl
  | _ => .sp

/-- Field qq (R114). -/
def decodeQQ : Nat → RegQQ
  | 0 => .bc
  | 1 => .de
  | 2 => .hl
  | _ => .af

/-- Field pp (R115). -/
def decodePP : Nat → RegPP
  | 0 => .bc
  | 1 => .de
  | 2 => .ix
  | _ => .sp

/-- Field rr (R116). -/
def decodeRR : Nat → RegRR
  | 0 => .bc
  | 1 => .de
  | 2 => .iy
  | _ => .sp

/-- Field cc (R117). -/
def decodeCond : Nat → Cond
  | 0 => .nz
  | 1 => .z
  | 2 => .nc
  | 3 => .c
  | 4 => .po
  | 5 => .pe
  | 6 => .p
  | _ => .m

/-- RST's address from its field t (R119): 8 * t. -/
def restartAddress (t : Nat) : Byte := BitVec.ofNat 8 (8 * t)

/-- An accumulator operation on a register (10ooorrr, spec/43_arith8.md R233). -/
def aluOnReg (y : Nat) (r : R8) : Instr :=
  match y with
  | 0 => .addAR r
  | 1 => .adcAR r
  | 2 => .subR r
  | 3 => .sbcAR r
  | 4 => .andR r
  | 5 => .xorR r
  | 6 => .orR r
  | _ => .cpR r

/-- An accumulator operation on (HL) (10ooo110). -/
def aluOnHl (y : Nat) : Instr :=
  match y with
  | 0 => .addAAtHl
  | 1 => .adcAAtHl
  | 2 => .subAtHl
  | 3 => .sbcAAtHl
  | 4 => .andAtHl
  | 5 => .xorAtHl
  | 6 => .orAtHl
  | _ => .cpAtHl

/-- An accumulator operation on an immediate (11ooo110 n). -/
def aluOnN (y : Nat) (n : Byte) : Instr :=
  match y with
  | 0 => .addAN n
  | 1 => .adcAN n
  | 2 => .subN n
  | 3 => .sbcAN n
  | 4 => .andN n
  | 5 => .xorN n
  | 6 => .orN n
  | _ => .cpN n

/-- First bytes 00H to 3FH (spec/30_encoding.md Table R130). -/
def decodeQuarter0 (b0 : Byte) (rest : List Byte) : Decoded :=
  let y := fieldY b0
  let p := fieldP b0
  match fieldZ b0 with
  | 0 =>
    match y with
    | 0 => opNone .nop rest
    | 1 => opNone .exAf rest
    | 2 => opByte .djnzE rest
    | 3 => opByte .jrE rest
    | 4 => opByte .jrNzE rest
    | 5 => opByte .jrZE rest
    | 6 => opByte .jrNcE rest
    | _ => opByte .jrCE rest
  | 1 =>
    if y % 2 = 0 then opWord (.ldDdNn (decodeDD p)) rest else opNone (.addHlSs (decodeDD p)) rest
  | 2 =>
    match y with
    | 0 => opNone .ldAtBcA rest
    | 1 => opNone .ldAAtBc rest
    | 2 => opNone .ldAtDeA rest
    | 3 => opNone .ldAAtDe rest
    | 4 => opWord .ldAtNnHl rest
    | 5 => opWord .ldHlAtNn rest
    | 6 => opWord .ldAtNnA rest
    | _ => opWord .ldAAtNn rest
  | 3 =>
    if y % 2 = 0 then opNone (.incSs (decodeDD p)) rest else opNone (.decSs (decodeDD p)) rest
  | 4 =>
    match decodeR8 y with
    | some r => opNone (.incR r) rest
    | none => opNone .incAtHl rest
  | 5 =>
    match decodeR8 y with
    | some r => opNone (.decR r) rest
    | none => opNone .decAtHl rest
  | 6 =>
    match decodeR8 y with
    | some r => opByte (.ldRN r) rest
    | none => opByte .ldAtHlN rest
  | _ =>
    match y with
    | 0 => opNone .rlca rest
    | 1 => opNone .rrca rest
    | 2 => opNone .rla rest
    | 3 => opNone .rra rest
    | 4 => opNone .daa rest
    | 5 => opNone .cpl rest
    | 6 => opNone .scf rest
    | _ => opNone .ccf rest

/-- First bytes 40H to 7FH: the register loads and HALT (spec/40_load8.md R150, R152, R155;
spec/44_general_cpu_control.md R296). -/
def decodeQuarter1 (b0 : Byte) (rest : List Byte) : Decoded :=
  match decodeR8 (fieldY b0), decodeR8 (fieldZ b0) with
  | some rd, some rs => opNone (.ldRR rd rs) rest
  | some r, none => opNone (.ldRAtHl r) rest
  | none, some r => opNone (.ldAtHlR r) rest
  | none, none => opNone .halt rest

/-- First bytes 80H to BFH: the accumulator operations (spec/43_arith8.md R233). -/
def decodeQuarter2 (b0 : Byte) (rest : List Byte) : Decoded :=
  match decodeR8 (fieldZ b0) with
  | some r => opNone (aluOnReg (fieldY b0) r) rest
  | none => opNone (aluOnHl (fieldY b0)) rest

/-- First bytes C0H to FFH except the four prefixes (spec/30_encoding.md Table R130). The codes of the prefixes
(y = 1 of z = 3, and y = 3, 5, 7 of z = 5) do not reach here: decode takes them first. -/
def decodeQuarter3 (b0 : Byte) (rest : List Byte) : Decoded :=
  let y := fieldY b0
  match fieldZ b0 with
  | 0 => opNone (.retCc (decodeCond y)) rest
  | 1 =>
    match y with
    | 1 => opNone .ret rest
    | 3 => opNone .exx rest
    | 5 => opNone .jpHl rest
    | 7 => opNone .ldSpHl rest
    | _ => opNone (.popQq (decodeQQ (fieldP b0))) rest
  | 2 => opWord (.jpCcNn (decodeCond y)) rest
  | 3 =>
    match y with
    | 0 => opWord .jpNn rest
    | 2 => opByte .outNA rest
    | 3 => opByte .inAN rest
    | 4 => opNone .exSpHl rest
    | 5 => opNone .exDeHl rest
    | 6 => opNone .di rest
    | _ => opNone .ei rest
  | 4 => opWord (.callCcNn (decodeCond y)) rest
  | 5 =>
    match y with
    | 1 => opWord .callNn rest
    | _ => opNone (.pushQq (decodeQQ (fieldP b0))) rest
  | 6 => opByte (aluOnN y) rest
  | _ => opNone (.rstP (restartAddress y)) rest

/-- First byte, no prefix (spec/30_encoding.md R130). -/
def decodeMain (b0 : Byte) (rest : List Byte) : Decoded :=
  match fieldX b0 with
  | 0 => decodeQuarter0 b0 rest
  | 1 => decodeQuarter1 b0 rest
  | 2 => decodeQuarter2 b0 rest
  | _ => decodeQuarter3 b0 rest

/-- A rotate or shift of a register: ooo = 110 is unassigned (spec/30_encoding.md R124; spec/46_rotate_shift.md R330). -/
def shiftOnReg (y : Nat) (r : R8) : Option Instr :=
  match y with
  | 0 => some (.rlcR r)
  | 1 => some (.rrcR r)
  | 2 => some (.rlR r)
  | 3 => some (.rrR r)
  | 4 => some (.slaR r)
  | 5 => some (.sraR r)
  | 7 => some (.srlR r)
  | _ => none

/-- A rotate or shift of (HL). -/
def shiftOnHl (y : Nat) : Option Instr :=
  match y with
  | 0 => some .rlcAtHl
  | 1 => some .rrcAtHl
  | 2 => some .rlAtHl
  | 3 => some .rrAtHl
  | 4 => some .slaAtHl
  | 5 => some .sraAtHl
  | 7 => some .srlAtHl
  | _ => none

/-- After CB (spec/30_encoding.md R124, R131). -/
def decodeCB : List Byte → Decoded
  | [] => .error .truncated
  | b1 :: rest =>
    let y := fieldY b1
    match fieldX b1, decodeR8 (fieldZ b1) with
    | 0, some r =>
      match shiftOnReg y r with
      | some i => opNone i rest
      | none => .error (.unassignedCB b1)
    | 0, none =>
      match shiftOnHl y with
      | some i => opNone i rest
      | none => .error (.unassignedCB b1)
    | 1, some r => opNone (.bitBR y r) rest
    | 1, none => opNone (.bitBAtHl y) rest
    | 2, some r => opNone (.resBR y r) rest
    | 2, none => opNone (.resBAtHl y) rest
    | _, some r => opNone (.setBR y r) rest
    | _, none => opNone (.setBAtHl y) rest

/-- Second bytes 40H to 7FH after ED (spec/30_encoding.md R132). -/
def decodeEDQuarter1 (b1 : Byte) (rest : List Byte) : Decoded :=
  let y := fieldY b1
  let p := fieldP b1
  match fieldZ b1 with
  | 0 =>
    match decodeR8 y with
    | some r => opNone (.inRC r) rest
    | none => .error (.unassignedED b1)
  | 1 =>
    match decodeR8 y with
    | some r => opNone (.outCR r) rest
    | none => .error (.unassignedED b1)
  | 2 =>
    if y % 2 = 0 then opNone (.sbcHlSs (decodeDD p)) rest else opNone (.adcHlSs (decodeDD p)) rest
  | 3 =>
    if y % 2 = 0 then opWord (fun nn => .ldAtNnDd nn (decodeDD p)) rest else opWord (.ldDdAtNn (decodeDD p)) rest
  | 4 =>
    match y with
    | 0 => opNone .neg rest
    | _ => .error (.unassignedED b1)
  | 5 =>
    match y with
    | 0 => opNone .retn rest
    | 1 => opNone .reti rest
    | _ => .error (.unassignedED b1)
  | 6 =>
    match y with
    | 0 => opNone .im0 rest
    | 2 => opNone .im1 rest
    | 3 => opNone .im2 rest
    | _ => .error (.unassignedED b1)
  | _ =>
    match y with
    | 0 => opNone .ldIA rest
    | 1 => opNone .ldRA rest
    | 2 => opNone .ldAI rest
    | 3 => opNone .ldAR rest
    | 4 => opNone .rrd rest
    | 5 => opNone .rld rest
    | _ => .error (.unassignedED b1)

/-- Second bytes 80H to BFH after ED: the block instructions (spec/30_encoding.md R132). -/
def decodeEDQuarter2 (b1 : Byte) (rest : List Byte) : Decoded :=
  match fieldY b1, fieldZ b1 with
  | 4, 0 => opNone .ldi rest
  | 4, 1 => opNone .cpi rest
  | 4, 2 => opNone .ini rest
  | 4, 3 => opNone .outi rest
  | 5, 0 => opNone .ldd rest
  | 5, 1 => opNone .cpd rest
  | 5, 2 => opNone .ind rest
  | 5, 3 => opNone .outd rest
  | 6, 0 => opNone .ldir rest
  | 6, 1 => opNone .cpir rest
  | 6, 2 => opNone .inir rest
  | 6, 3 => opNone .otir rest
  | 7, 0 => opNone .lddr rest
  | 7, 1 => opNone .cpdr rest
  | 7, 2 => opNone .indr rest
  | 7, 3 => opNone .otdr rest
  | _, _ => .error (.unassignedED b1)

/-- After ED (spec/30_encoding.md R125, R132). -/
def decodeED : List Byte → Decoded
  | [] => .error .truncated
  | b1 :: rest =>
    match fieldX b1 with
    | 1 => decodeEDQuarter1 b1 rest
    | 2 => decodeEDQuarter2 b1 rest
    | _ => .error (.unassignedED b1)

/-- A rotate or shift of (IX+d). -/
def shiftOnIx (y : Nat) (d : Byte) : Option Instr :=
  match y with
  | 0 => some (.rlcAtIx d)
  | 1 => some (.rrcAtIx d)
  | 2 => some (.rlAtIx d)
  | 3 => some (.rrAtIx d)
  | 4 => some (.slaAtIx d)
  | 5 => some (.sraAtIx d)
  | 7 => some (.srlAtIx d)
  | _ => none

/-- An accumulator operation on (IX+d). -/
def aluOnIx (y : Nat) (d : Byte) : Instr :=
  match y with
  | 0 => .addAAtIx d
  | 1 => .adcAAtIx d
  | 2 => .subAtIx d
  | 3 => .sbcAAtIx d
  | 4 => .andAtIx d
  | 5 => .xorAtIx d
  | 6 => .orAtIx d
  | _ => .cpAtIx d

/-- After DD CB d: the fourth byte (spec/30_encoding.md R127, R134). -/
def decodeIXCB : List Byte → Decoded
  | d :: b3 :: rest =>
    match fieldX b3, fieldZ b3 with
    | 0, 6 =>
      match shiftOnIx (fieldY b3) d with
      | some i => opNone i rest
      | none => .error (.unassignedXYCB 0xDD d b3)
    | 1, 6 => opNone (.bitBAtIx (fieldY b3) d) rest
    | 2, 6 => opNone (.resBAtIx (fieldY b3) d) rest
    | 3, 6 => opNone (.setBAtIx (fieldY b3) d) rest
    | _, _ => .error (.unassignedXYCB 0xDD d b3)
  | _ => .error .truncated

/-- The quarter 00H to 3FH of the second bytes after DD (spec/30_encoding.md R133). -/
def decodeIXQuarter0 (b1 : Byte) (rest : List Byte) : Decoded :=
  match fieldZ b1, fieldY b1 with
  | 1, 1 | 1, 3 | 1, 5 | 1, 7 => opNone (.addIxPp (decodePP (fieldP b1))) rest
  | 1, 4 => opWord .ldIxNn rest
  | 2, 4 => opWord .ldAtNnIx rest
  | 2, 5 => opWord .ldIxAtNn rest
  | 3, 4 => opNone .incIx rest
  | 3, 5 => opNone .decIx rest
  | 4, 6 => opByte .incAtIx rest
  | 5, 6 => opByte .decAtIx rest
  | 6, 6 => opTwo .ldAtIxN rest
  | _, _ => .error (.unassignedXY 0xDD b1)

/-- The quarter C0H to FFH of the second bytes after DD, except CB (spec/30_encoding.md R133). -/
def decodeIXQuarter3 (b1 : Byte) (rest : List Byte) : Decoded :=
  match fieldZ b1, fieldY b1 with
  | 1, 4 => opNone .popIx rest
  | 1, 5 => opNone .jpIx rest
  | 1, 7 => opNone .ldSpIx rest
  | 3, 4 => opNone .exSpIx rest
  | 5, 4 => opNone .pushIx rest
  | _, _ => .error (.unassignedXY 0xDD b1)

/-- After DD (spec/30_encoding.md R126, R133). -/
def decodeIX : List Byte → Decoded
  | [] => .error .truncated
  | b1 :: rest =>
    if b1 = 0xCB then decodeIXCB rest
    else
      match fieldX b1 with
      | 0 => decodeIXQuarter0 b1 rest
      | 1 =>
        match decodeR8 (fieldY b1), decodeR8 (fieldZ b1) with
        | some r, none => opByte (.ldRAtIx r) rest
        | none, some r => opByte (fun d => .ldAtIxR d r) rest
        | _, _ => .error (.unassignedXY 0xDD b1)
      | 2 =>
        if fieldZ b1 = 6 then opByte (aluOnIx (fieldY b1)) rest else .error (.unassignedXY 0xDD b1)
      | _ => decodeIXQuarter3 b1 rest

/-- A rotate or shift of (IY+d). -/
def shiftOnIy (y : Nat) (d : Byte) : Option Instr :=
  match y with
  | 0 => some (.rlcAtIy d)
  | 1 => some (.rrcAtIy d)
  | 2 => some (.rlAtIy d)
  | 3 => some (.rrAtIy d)
  | 4 => some (.slaAtIy d)
  | 5 => some (.sraAtIy d)
  | 7 => some (.srlAtIy d)
  | _ => none

/-- An accumulator operation on (IY+d). -/
def aluOnIy (y : Nat) (d : Byte) : Instr :=
  match y with
  | 0 => .addAAtIy d
  | 1 => .adcAAtIy d
  | 2 => .subAtIy d
  | 3 => .sbcAAtIy d
  | 4 => .andAtIy d
  | 5 => .xorAtIy d
  | 6 => .orAtIy d
  | _ => .cpAtIy d

/-- After FD CB d: the fourth byte (spec/30_encoding.md R127, R134). -/
def decodeIYCB : List Byte → Decoded
  | d :: b3 :: rest =>
    match fieldX b3, fieldZ b3 with
    | 0, 6 =>
      match shiftOnIy (fieldY b3) d with
      | some i => opNone i rest
      | none => .error (.unassignedXYCB 0xFD d b3)
    | 1, 6 => opNone (.bitBAtIy (fieldY b3) d) rest
    | 2, 6 => opNone (.resBAtIy (fieldY b3) d) rest
    | 3, 6 => opNone (.setBAtIy (fieldY b3) d) rest
    | _, _ => .error (.unassignedXYCB 0xFD d b3)
  | _ => .error .truncated

/-- The quarter 00H to 3FH of the second bytes after FD (spec/30_encoding.md R133). -/
def decodeIYQuarter0 (b1 : Byte) (rest : List Byte) : Decoded :=
  match fieldZ b1, fieldY b1 with
  | 1, 1 | 1, 3 | 1, 5 | 1, 7 => opNone (.addIyRr (decodeRR (fieldP b1))) rest
  | 1, 4 => opWord .ldIyNn rest
  | 2, 4 => opWord .ldAtNnIy rest
  | 2, 5 => opWord .ldIyAtNn rest
  | 3, 4 => opNone .incIy rest
  | 3, 5 => opNone .decIy rest
  | 4, 6 => opByte .incAtIy rest
  | 5, 6 => opByte .decAtIy rest
  | 6, 6 => opTwo .ldAtIyN rest
  | _, _ => .error (.unassignedXY 0xFD b1)

/-- The quarter C0H to FFH of the second bytes after FD, except CB (spec/30_encoding.md R133). -/
def decodeIYQuarter3 (b1 : Byte) (rest : List Byte) : Decoded :=
  match fieldZ b1, fieldY b1 with
  | 1, 4 => opNone .popIy rest
  | 1, 5 => opNone .jpIy rest
  | 1, 7 => opNone .ldSpIy rest
  | 3, 4 => opNone .exSpIy rest
  | 5, 4 => opNone .pushIy rest
  | _, _ => .error (.unassignedXY 0xFD b1)

/-- After FD (spec/30_encoding.md R126, R133). -/
def decodeIY : List Byte → Decoded
  | [] => .error .truncated
  | b1 :: rest =>
    if b1 = 0xCB then decodeIYCB rest
    else
      match fieldX b1 with
      | 0 => decodeIYQuarter0 b1 rest
      | 1 =>
        match decodeR8 (fieldY b1), decodeR8 (fieldZ b1) with
        | some r, none => opByte (.ldRAtIy r) rest
        | none, some r => opByte (fun d => .ldAtIyR d r) rest
        | _, _ => .error (.unassignedXY 0xFD b1)
      | 2 =>
        if fieldZ b1 = 6 then opByte (aluOnIy (fieldY b1)) rest else .error (.unassignedXY 0xFD b1)
      | _ => decodeIYQuarter3 b1 rest

/-- The decoder (spec/30_encoding.md R128). -/
def decode : List Byte → Decoded
  | [] => .error .truncated
  | b0 :: rest =>
    if b0 = 0xCB then decodeCB rest
    else if b0 = 0xED then decodeED rest
    else if b0 = 0xDD then decodeIX rest
    else if b0 = 0xFD then decodeIY rest
    else decodeMain b0 rest

/-! The encoder. -/

/-- Field r (spec/30_encoding.md R112). -/
def R8.code : R8 → Byte
  | .b => 0
  | .c => 1
  | .d => 2
  | .e => 3
  | .h => 4
  | .l => 5
  | .a => 7

/-- Field dd (R113). -/
def RegDD.code : RegDD → Byte
  | .bc => 0
  | .de => 1
  | .hl => 2
  | .sp => 3

/-- Field qq (R114). -/
def RegQQ.code : RegQQ → Byte
  | .bc => 0
  | .de => 1
  | .hl => 2
  | .af => 3

/-- Field pp (R115). -/
def RegPP.code : RegPP → Byte
  | .bc => 0
  | .de => 1
  | .ix => 2
  | .sp => 3

/-- Field rr (R116). -/
def RegRR.code : RegRR → Byte
  | .bc => 0
  | .de => 1
  | .iy => 2
  | .sp => 3

/-- Field cc (R117). -/
def Cond.code : Cond → Byte
  | .nz => 0
  | .z => 1
  | .nc => 2
  | .c => 3
  | .po => 4
  | .pe => 5
  | .p => 6
  | .m => 7

/-- A byte with a field at bits 5:3. -/
def withY (base code : Byte) : Byte := base ||| (code <<< 3)

/-- A byte with a field at bits 5:3 and one at bits 2:0. -/
def withYZ (base y z : Byte) : Byte := base ||| (y <<< 3) ||| z

/-- A byte with a register pair field at bits 5:4. -/
def withP (base code : Byte) : Byte := base ||| (code <<< 4)

/-- Field b (R118). -/
def bitCode (b : Nat) : Byte := BitVec.ofNat 8 b

/-- The bytes of an instruction, in the order they stand in memory: the Encoding line of each rule. -/
def encode : Instr → List Byte
  | .ldRR rd rs => [withYZ 0x40 rd.code rs.code]
  | .ldRN r n => [withY 0x06 r.code, n]
  | .ldRAtHl r => [withY 0x46 r.code]
  | .ldRAtIx r d => [0xDD, withY 0x46 r.code, d]
  | .ldRAtIy r d => [0xFD, withY 0x46 r.code, d]
  | .ldAtHlR r => [0x70 ||| r.code]
  | .ldAtIxR d r => [0xDD, 0x70 ||| r.code, d]
  | .ldAtIyR d r => [0xFD, 0x70 ||| r.code, d]
  | .ldAtHlN n => [0x36, n]
  | .ldAtIxN d n => [0xDD, 0x36, d, n]
  | .ldAtIyN d n => [0xFD, 0x36, d, n]
  | .ldAAtBc => [0x0A]
  | .ldAAtDe => [0x1A]
  | .ldAAtNn nn => [0x3A, loByte nn, hiByte nn]
  | .ldAtBcA => [0x02]
  | .ldAtDeA => [0x12]
  | .ldAtNnA nn => [0x32, loByte nn, hiByte nn]
  | .ldAI => [0xED, 0x57]
  | .ldAR => [0xED, 0x5F]
  | .ldIA => [0xED, 0x47]
  | .ldRA => [0xED, 0x4F]
  | .ldDdNn dd nn => [withP 0x01 dd.code, loByte nn, hiByte nn]
  | .ldIxNn nn => [0xDD, 0x21, loByte nn, hiByte nn]
  | .ldIyNn nn => [0xFD, 0x21, loByte nn, hiByte nn]
  | .ldHlAtNn nn => [0x2A, loByte nn, hiByte nn]
  | .ldDdAtNn dd nn => [0xED, withP 0x4B dd.code, loByte nn, hiByte nn]
  | .ldIxAtNn nn => [0xDD, 0x2A, loByte nn, hiByte nn]
  | .ldIyAtNn nn => [0xFD, 0x2A, loByte nn, hiByte nn]
  | .ldAtNnHl nn => [0x22, loByte nn, hiByte nn]
  | .ldAtNnDd nn dd => [0xED, withP 0x43 dd.code, loByte nn, hiByte nn]
  | .ldAtNnIx nn => [0xDD, 0x22, loByte nn, hiByte nn]
  | .ldAtNnIy nn => [0xFD, 0x22, loByte nn, hiByte nn]
  | .ldSpHl => [0xF9]
  | .ldSpIx => [0xDD, 0xF9]
  | .ldSpIy => [0xFD, 0xF9]
  | .pushQq qq => [withP 0xC5 qq.code]
  | .pushIx => [0xDD, 0xE5]
  | .pushIy => [0xFD, 0xE5]
  | .popQq qq => [withP 0xC1 qq.code]
  | .popIx => [0xDD, 0xE1]
  | .popIy => [0xFD, 0xE1]
  | .exDeHl => [0xEB]
  | .exAf => [0x08]
  | .exx => [0xD9]
  | .exSpHl => [0xE3]
  | .exSpIx => [0xDD, 0xE3]
  | .exSpIy => [0xFD, 0xE3]
  | .ldi => [0xED, 0xA0]
  | .ldir => [0xED, 0xB0]
  | .ldd => [0xED, 0xA8]
  | .lddr => [0xED, 0xB8]
  | .cpi => [0xED, 0xA1]
  | .cpir => [0xED, 0xB1]
  | .cpd => [0xED, 0xA9]
  | .cpdr => [0xED, 0xB9]
  | .addAR r => [0x80 ||| r.code]
  | .addAN n => [0xC6, n]
  | .addAAtHl => [0x86]
  | .addAAtIx d => [0xDD, 0x86, d]
  | .addAAtIy d => [0xFD, 0x86, d]
  | .adcAR r => [0x88 ||| r.code]
  | .adcAN n => [0xCE, n]
  | .adcAAtHl => [0x8E]
  | .adcAAtIx d => [0xDD, 0x8E, d]
  | .adcAAtIy d => [0xFD, 0x8E, d]
  | .subR r => [0x90 ||| r.code]
  | .subN n => [0xD6, n]
  | .subAtHl => [0x96]
  | .subAtIx d => [0xDD, 0x96, d]
  | .subAtIy d => [0xFD, 0x96, d]
  | .sbcAR r => [0x98 ||| r.code]
  | .sbcAN n => [0xDE, n]
  | .sbcAAtHl => [0x9E]
  | .sbcAAtIx d => [0xDD, 0x9E, d]
  | .sbcAAtIy d => [0xFD, 0x9E, d]
  | .andR r => [0xA0 ||| r.code]
  | .andN n => [0xE6, n]
  | .andAtHl => [0xA6]
  | .andAtIx d => [0xDD, 0xA6, d]
  | .andAtIy d => [0xFD, 0xA6, d]
  | .xorR r => [0xA8 ||| r.code]
  | .xorN n => [0xEE, n]
  | .xorAtHl => [0xAE]
  | .xorAtIx d => [0xDD, 0xAE, d]
  | .xorAtIy d => [0xFD, 0xAE, d]
  | .orR r => [0xB0 ||| r.code]
  | .orN n => [0xF6, n]
  | .orAtHl => [0xB6]
  | .orAtIx d => [0xDD, 0xB6, d]
  | .orAtIy d => [0xFD, 0xB6, d]
  | .cpR r => [0xB8 ||| r.code]
  | .cpN n => [0xFE, n]
  | .cpAtHl => [0xBE]
  | .cpAtIx d => [0xDD, 0xBE, d]
  | .cpAtIy d => [0xFD, 0xBE, d]
  | .incR r => [withY 0x04 r.code]
  | .incAtHl => [0x34]
  | .incAtIx d => [0xDD, 0x34, d]
  | .incAtIy d => [0xFD, 0x34, d]
  | .decR r => [withY 0x05 r.code]
  | .decAtHl => [0x35]
  | .decAtIx d => [0xDD, 0x35, d]
  | .decAtIy d => [0xFD, 0x35, d]
  | .daa => [0x27]
  | .cpl => [0x2F]
  | .neg => [0xED, 0x44]
  | .ccf => [0x3F]
  | .scf => [0x37]
  | .nop => [0x00]
  | .halt => [0x76]
  | .di => [0xF3]
  | .ei => [0xFB]
  | .im0 => [0xED, 0x46]
  | .im1 => [0xED, 0x56]
  | .im2 => [0xED, 0x5E]
  | .addHlSs dd => [withP 0x09 dd.code]
  | .adcHlSs dd => [0xED, withP 0x4A dd.code]
  | .sbcHlSs dd => [0xED, withP 0x42 dd.code]
  | .addIxPp pp => [0xDD, withP 0x09 pp.code]
  | .addIyRr rr => [0xFD, withP 0x09 rr.code]
  | .incSs dd => [withP 0x03 dd.code]
  | .incIx => [0xDD, 0x23]
  | .incIy => [0xFD, 0x23]
  | .decSs dd => [withP 0x0B dd.code]
  | .decIx => [0xDD, 0x2B]
  | .decIy => [0xFD, 0x2B]
  | .rlca => [0x07]
  | .rla => [0x17]
  | .rrca => [0x0F]
  | .rra => [0x1F]
  | .rlcR r => [0xCB, 0x00 ||| r.code]
  | .rlcAtHl => [0xCB, 0x06]
  | .rlcAtIx d => [0xDD, 0xCB, d, 0x06]
  | .rlcAtIy d => [0xFD, 0xCB, d, 0x06]
  | .rrcR r => [0xCB, 0x08 ||| r.code]
  | .rrcAtHl => [0xCB, 0x0E]
  | .rrcAtIx d => [0xDD, 0xCB, d, 0x0E]
  | .rrcAtIy d => [0xFD, 0xCB, d, 0x0E]
  | .rlR r => [0xCB, 0x10 ||| r.code]
  | .rlAtHl => [0xCB, 0x16]
  | .rlAtIx d => [0xDD, 0xCB, d, 0x16]
  | .rlAtIy d => [0xFD, 0xCB, d, 0x16]
  | .rrR r => [0xCB, 0x18 ||| r.code]
  | .rrAtHl => [0xCB, 0x1E]
  | .rrAtIx d => [0xDD, 0xCB, d, 0x1E]
  | .rrAtIy d => [0xFD, 0xCB, d, 0x1E]
  | .slaR r => [0xCB, 0x20 ||| r.code]
  | .slaAtHl => [0xCB, 0x26]
  | .slaAtIx d => [0xDD, 0xCB, d, 0x26]
  | .slaAtIy d => [0xFD, 0xCB, d, 0x26]
  | .sraR r => [0xCB, 0x28 ||| r.code]
  | .sraAtHl => [0xCB, 0x2E]
  | .sraAtIx d => [0xDD, 0xCB, d, 0x2E]
  | .sraAtIy d => [0xFD, 0xCB, d, 0x2E]
  | .srlR r => [0xCB, 0x38 ||| r.code]
  | .srlAtHl => [0xCB, 0x3E]
  | .srlAtIx d => [0xDD, 0xCB, d, 0x3E]
  | .srlAtIy d => [0xFD, 0xCB, d, 0x3E]
  | .rld => [0xED, 0x6F]
  | .rrd => [0xED, 0x67]
  | .bitBR b r => [0xCB, withYZ 0x40 (bitCode b) r.code]
  | .bitBAtHl b => [0xCB, withY 0x46 (bitCode b)]
  | .bitBAtIx b d => [0xDD, 0xCB, d, withY 0x46 (bitCode b)]
  | .bitBAtIy b d => [0xFD, 0xCB, d, withY 0x46 (bitCode b)]
  | .setBR b r => [0xCB, withYZ 0xC0 (bitCode b) r.code]
  | .setBAtHl b => [0xCB, withY 0xC6 (bitCode b)]
  | .setBAtIx b d => [0xDD, 0xCB, d, withY 0xC6 (bitCode b)]
  | .setBAtIy b d => [0xFD, 0xCB, d, withY 0xC6 (bitCode b)]
  | .resBR b r => [0xCB, withYZ 0x80 (bitCode b) r.code]
  | .resBAtHl b => [0xCB, withY 0x86 (bitCode b)]
  | .resBAtIx b d => [0xDD, 0xCB, d, withY 0x86 (bitCode b)]
  | .resBAtIy b d => [0xFD, 0xCB, d, withY 0x86 (bitCode b)]
  | .jpNn nn => [0xC3, loByte nn, hiByte nn]
  | .jpCcNn cc nn => [withY 0xC2 cc.code, loByte nn, hiByte nn]
  | .jrE e => [0x18, e]
  | .jrCE e => [0x38, e]
  | .jrNcE e => [0x30, e]
  | .jrZE e => [0x28, e]
  | .jrNzE e => [0x20, e]
  | .jpHl => [0xE9]
  | .jpIx => [0xDD, 0xE9]
  | .jpIy => [0xFD, 0xE9]
  | .djnzE e => [0x10, e]
  | .callNn nn => [0xCD, loByte nn, hiByte nn]
  | .callCcNn cc nn => [withY 0xC4 cc.code, loByte nn, hiByte nn]
  | .ret => [0xC9]
  | .retCc cc => [withY 0xC0 cc.code]
  | .reti => [0xED, 0x4D]
  | .retn => [0xED, 0x45]
  | .rstP p => [0xC7 ||| p]
  | .inAN n => [0xDB, n]
  | .inRC r => [0xED, withY 0x40 r.code]
  | .ini => [0xED, 0xA2]
  | .inir => [0xED, 0xB2]
  | .ind => [0xED, 0xAA]
  | .indr => [0xED, 0xBA]
  | .outNA n => [0xD3, n]
  | .outCR r => [0xED, withY 0x41 r.code]
  | .outi => [0xED, 0xA3]
  | .otir => [0xED, 0xB3]
  | .outd => [0xED, 0xAB]
  | .otdr => [0xED, 0xBB]

/-- An instruction's length in bytes (spec/30_encoding.md R110, Table R111). -/
def Instr.length : Instr → Nat
  | .ldRR _ _ => 1
  | .ldRN _ _ => 2
  | .ldRAtHl _ => 1
  | .ldRAtIx _ _ => 3
  | .ldRAtIy _ _ => 3
  | .ldAtHlR _ => 1
  | .ldAtIxR _ _ => 3
  | .ldAtIyR _ _ => 3
  | .ldAtHlN _ => 2
  | .ldAtIxN _ _ => 4
  | .ldAtIyN _ _ => 4
  | .ldAAtBc => 1
  | .ldAAtDe => 1
  | .ldAAtNn _ => 3
  | .ldAtBcA => 1
  | .ldAtDeA => 1
  | .ldAtNnA _ => 3
  | .ldAI => 2
  | .ldAR => 2
  | .ldIA => 2
  | .ldRA => 2
  | .ldDdNn _ _ => 3
  | .ldIxNn _ => 4
  | .ldIyNn _ => 4
  | .ldHlAtNn _ => 3
  | .ldDdAtNn _ _ => 4
  | .ldIxAtNn _ => 4
  | .ldIyAtNn _ => 4
  | .ldAtNnHl _ => 3
  | .ldAtNnDd _ _ => 4
  | .ldAtNnIx _ => 4
  | .ldAtNnIy _ => 4
  | .ldSpHl => 1
  | .ldSpIx => 2
  | .ldSpIy => 2
  | .pushQq _ => 1
  | .pushIx => 2
  | .pushIy => 2
  | .popQq _ => 1
  | .popIx => 2
  | .popIy => 2
  | .exDeHl => 1
  | .exAf => 1
  | .exx => 1
  | .exSpHl => 1
  | .exSpIx => 2
  | .exSpIy => 2
  | .ldi => 2
  | .ldir => 2
  | .ldd => 2
  | .lddr => 2
  | .cpi => 2
  | .cpir => 2
  | .cpd => 2
  | .cpdr => 2
  | .addAR _ => 1
  | .addAN _ => 2
  | .addAAtHl => 1
  | .addAAtIx _ => 3
  | .addAAtIy _ => 3
  | .adcAR _ => 1
  | .adcAN _ => 2
  | .adcAAtHl => 1
  | .adcAAtIx _ => 3
  | .adcAAtIy _ => 3
  | .subR _ => 1
  | .subN _ => 2
  | .subAtHl => 1
  | .subAtIx _ => 3
  | .subAtIy _ => 3
  | .sbcAR _ => 1
  | .sbcAN _ => 2
  | .sbcAAtHl => 1
  | .sbcAAtIx _ => 3
  | .sbcAAtIy _ => 3
  | .andR _ => 1
  | .andN _ => 2
  | .andAtHl => 1
  | .andAtIx _ => 3
  | .andAtIy _ => 3
  | .xorR _ => 1
  | .xorN _ => 2
  | .xorAtHl => 1
  | .xorAtIx _ => 3
  | .xorAtIy _ => 3
  | .orR _ => 1
  | .orN _ => 2
  | .orAtHl => 1
  | .orAtIx _ => 3
  | .orAtIy _ => 3
  | .cpR _ => 1
  | .cpN _ => 2
  | .cpAtHl => 1
  | .cpAtIx _ => 3
  | .cpAtIy _ => 3
  | .incR _ => 1
  | .incAtHl => 1
  | .incAtIx _ => 3
  | .incAtIy _ => 3
  | .decR _ => 1
  | .decAtHl => 1
  | .decAtIx _ => 3
  | .decAtIy _ => 3
  | .daa => 1
  | .cpl => 1
  | .neg => 2
  | .ccf => 1
  | .scf => 1
  | .nop => 1
  | .halt => 1
  | .di => 1
  | .ei => 1
  | .im0 => 2
  | .im1 => 2
  | .im2 => 2
  | .addHlSs _ => 1
  | .adcHlSs _ => 2
  | .sbcHlSs _ => 2
  | .addIxPp _ => 2
  | .addIyRr _ => 2
  | .incSs _ => 1
  | .incIx => 2
  | .incIy => 2
  | .decSs _ => 1
  | .decIx => 2
  | .decIy => 2
  | .rlca => 1
  | .rla => 1
  | .rrca => 1
  | .rra => 1
  | .rlcR _ => 2
  | .rlcAtHl => 2
  | .rlcAtIx _ => 4
  | .rlcAtIy _ => 4
  | .rrcR _ => 2
  | .rrcAtHl => 2
  | .rrcAtIx _ => 4
  | .rrcAtIy _ => 4
  | .rlR _ => 2
  | .rlAtHl => 2
  | .rlAtIx _ => 4
  | .rlAtIy _ => 4
  | .rrR _ => 2
  | .rrAtHl => 2
  | .rrAtIx _ => 4
  | .rrAtIy _ => 4
  | .slaR _ => 2
  | .slaAtHl => 2
  | .slaAtIx _ => 4
  | .slaAtIy _ => 4
  | .sraR _ => 2
  | .sraAtHl => 2
  | .sraAtIx _ => 4
  | .sraAtIy _ => 4
  | .srlR _ => 2
  | .srlAtHl => 2
  | .srlAtIx _ => 4
  | .srlAtIy _ => 4
  | .rld => 2
  | .rrd => 2
  | .bitBR _ _ => 2
  | .bitBAtHl _ => 2
  | .bitBAtIx _ _ => 4
  | .bitBAtIy _ _ => 4
  | .setBR _ _ => 2
  | .setBAtHl _ => 2
  | .setBAtIx _ _ => 4
  | .setBAtIy _ _ => 4
  | .resBR _ _ => 2
  | .resBAtHl _ => 2
  | .resBAtIx _ _ => 4
  | .resBAtIy _ _ => 4
  | .jpNn _ => 3
  | .jpCcNn _ _ => 3
  | .jrE _ => 2
  | .jrCE _ => 2
  | .jrNcE _ => 2
  | .jrZE _ => 2
  | .jrNzE _ => 2
  | .jpHl => 1
  | .jpIx => 2
  | .jpIy => 2
  | .djnzE _ => 2
  | .callNn _ => 3
  | .callCcNn _ _ => 3
  | .ret => 1
  | .retCc _ => 1
  | .reti => 2
  | .retn => 2
  | .rstP _ => 1
  | .inAN _ => 2
  | .inRC _ => 2
  | .ini => 2
  | .inir => 2
  | .ind => 2
  | .indr => 2
  | .outNA _ => 2
  | .outCR _ => 2
  | .outi => 2
  | .otir => 2
  | .outd => 2
  | .otdr => 2

/-- How many of an instruction's bytes are fetched with M1 cycles (spec/30_encoding.md Table R111, column "M1
cycles"): R advances once for each (spec/10_state.md R27). -/
def Instr.m1Cycles : Instr → Nat
  | .ldRR _ _ => 1
  | .ldRN _ _ => 1
  | .ldRAtHl _ => 1
  | .ldRAtIx _ _ => 2
  | .ldRAtIy _ _ => 2
  | .ldAtHlR _ => 1
  | .ldAtIxR _ _ => 2
  | .ldAtIyR _ _ => 2
  | .ldAtHlN _ => 1
  | .ldAtIxN _ _ => 2
  | .ldAtIyN _ _ => 2
  | .ldAAtBc => 1
  | .ldAAtDe => 1
  | .ldAAtNn _ => 1
  | .ldAtBcA => 1
  | .ldAtDeA => 1
  | .ldAtNnA _ => 1
  | .ldAI => 2
  | .ldAR => 2
  | .ldIA => 2
  | .ldRA => 2
  | .ldDdNn _ _ => 1
  | .ldIxNn _ => 2
  | .ldIyNn _ => 2
  | .ldHlAtNn _ => 1
  | .ldDdAtNn _ _ => 2
  | .ldIxAtNn _ => 2
  | .ldIyAtNn _ => 2
  | .ldAtNnHl _ => 1
  | .ldAtNnDd _ _ => 2
  | .ldAtNnIx _ => 2
  | .ldAtNnIy _ => 2
  | .ldSpHl => 1
  | .ldSpIx => 2
  | .ldSpIy => 2
  | .pushQq _ => 1
  | .pushIx => 2
  | .pushIy => 2
  | .popQq _ => 1
  | .popIx => 2
  | .popIy => 2
  | .exDeHl => 1
  | .exAf => 1
  | .exx => 1
  | .exSpHl => 1
  | .exSpIx => 2
  | .exSpIy => 2
  | .ldi => 2
  | .ldir => 2
  | .ldd => 2
  | .lddr => 2
  | .cpi => 2
  | .cpir => 2
  | .cpd => 2
  | .cpdr => 2
  | .addAR _ => 1
  | .addAN _ => 1
  | .addAAtHl => 1
  | .addAAtIx _ => 2
  | .addAAtIy _ => 2
  | .adcAR _ => 1
  | .adcAN _ => 1
  | .adcAAtHl => 1
  | .adcAAtIx _ => 2
  | .adcAAtIy _ => 2
  | .subR _ => 1
  | .subN _ => 1
  | .subAtHl => 1
  | .subAtIx _ => 2
  | .subAtIy _ => 2
  | .sbcAR _ => 1
  | .sbcAN _ => 1
  | .sbcAAtHl => 1
  | .sbcAAtIx _ => 2
  | .sbcAAtIy _ => 2
  | .andR _ => 1
  | .andN _ => 1
  | .andAtHl => 1
  | .andAtIx _ => 2
  | .andAtIy _ => 2
  | .xorR _ => 1
  | .xorN _ => 1
  | .xorAtHl => 1
  | .xorAtIx _ => 2
  | .xorAtIy _ => 2
  | .orR _ => 1
  | .orN _ => 1
  | .orAtHl => 1
  | .orAtIx _ => 2
  | .orAtIy _ => 2
  | .cpR _ => 1
  | .cpN _ => 1
  | .cpAtHl => 1
  | .cpAtIx _ => 2
  | .cpAtIy _ => 2
  | .incR _ => 1
  | .incAtHl => 1
  | .incAtIx _ => 2
  | .incAtIy _ => 2
  | .decR _ => 1
  | .decAtHl => 1
  | .decAtIx _ => 2
  | .decAtIy _ => 2
  | .daa => 1
  | .cpl => 1
  | .neg => 2
  | .ccf => 1
  | .scf => 1
  | .nop => 1
  | .halt => 1
  | .di => 1
  | .ei => 1
  | .im0 => 2
  | .im1 => 2
  | .im2 => 2
  | .addHlSs _ => 1
  | .adcHlSs _ => 2
  | .sbcHlSs _ => 2
  | .addIxPp _ => 2
  | .addIyRr _ => 2
  | .incSs _ => 1
  | .incIx => 2
  | .incIy => 2
  | .decSs _ => 1
  | .decIx => 2
  | .decIy => 2
  | .rlca => 1
  | .rla => 1
  | .rrca => 1
  | .rra => 1
  | .rlcR _ => 2
  | .rlcAtHl => 2
  | .rlcAtIx _ => 2
  | .rlcAtIy _ => 2
  | .rrcR _ => 2
  | .rrcAtHl => 2
  | .rrcAtIx _ => 2
  | .rrcAtIy _ => 2
  | .rlR _ => 2
  | .rlAtHl => 2
  | .rlAtIx _ => 2
  | .rlAtIy _ => 2
  | .rrR _ => 2
  | .rrAtHl => 2
  | .rrAtIx _ => 2
  | .rrAtIy _ => 2
  | .slaR _ => 2
  | .slaAtHl => 2
  | .slaAtIx _ => 2
  | .slaAtIy _ => 2
  | .sraR _ => 2
  | .sraAtHl => 2
  | .sraAtIx _ => 2
  | .sraAtIy _ => 2
  | .srlR _ => 2
  | .srlAtHl => 2
  | .srlAtIx _ => 2
  | .srlAtIy _ => 2
  | .rld => 2
  | .rrd => 2
  | .bitBR _ _ => 2
  | .bitBAtHl _ => 2
  | .bitBAtIx _ _ => 2
  | .bitBAtIy _ _ => 2
  | .setBR _ _ => 2
  | .setBAtHl _ => 2
  | .setBAtIx _ _ => 2
  | .setBAtIy _ _ => 2
  | .resBR _ _ => 2
  | .resBAtHl _ => 2
  | .resBAtIx _ _ => 2
  | .resBAtIy _ _ => 2
  | .jpNn _ => 1
  | .jpCcNn _ _ => 1
  | .jrE _ => 1
  | .jrCE _ => 1
  | .jrNcE _ => 1
  | .jrZE _ => 1
  | .jrNzE _ => 1
  | .jpHl => 1
  | .jpIx => 2
  | .jpIy => 2
  | .djnzE _ => 1
  | .callNn _ => 1
  | .callCcNn _ _ => 1
  | .ret => 1
  | .retCc _ => 1
  | .reti => 2
  | .retn => 2
  | .rstP _ => 1
  | .inAN _ => 1
  | .inRC _ => 2
  | .ini => 2
  | .inir => 2
  | .ind => 2
  | .indr => 2
  | .outNA _ => 1
  | .outCR _ => 2
  | .outi => 2
  | .otir => 2
  | .outd => 2
  | .otdr => 2

/-! What the host asks for. -/

/-- The n bytes of a number, the least significant first. -/
def bytesLow : Nat → Nat → List Byte
  | 0, _ => []
  | n + 1, w => BitVec.ofNat 8 w :: bytesLow n (w / 256)

/-- The number of bytes decode uses, when it finds an instruction. -/
def usedBytes (bytes : List Byte) : Option Nat :=
  match decode bytes with
  | .ok (_, rest) => some (bytes.length - rest.length)
  | .error _ => none

/-- One of the four prefix bytes (spec/30_encoding.md R128). -/
def isPrefixByte (v : Byte) : Bool := v == 0xCB || v == 0xED || v == 0xDD || v == 0xFD

/-- The bytes of a table word, in memory order. spec/opcode_table.json numbers the bits of a row ("match", "fixed")
with the FIRST byte as the most significant; the host's text numbers a later byte's bits above an earlier one's. Both
readings are tried: the first-byte-most-significant one must be an instruction of exactly nbits, the other one an
instruction of at least nbits (its further bytes 0). Where both are instructions the first is taken, unless only the
second begins with a prefix byte. DESIGN CHOICE (log entry 16). -/
def tableBytes (nbits w : Nat) : List Byte :=
  let k := nbits / 8
  let first := (bytesLow k w).reverse
  let later := bytesLow k w ++ List.replicate (4 - k) 0
  let firstOk := usedBytes first == some k
  let laterOk := match usedBytes later with
    | some m => decide (k ≤ m)
    | none => false
  let startsPrefixed := fun (l : List Byte) => match l with
    | v :: _ => isPrefixByte v
    | [] => false
  if laterOk && (!firstOk || (startsPrefixed later && !startsPrefixed first)) then later
  else first ++ List.replicate (4 - k) 0

/-- The instruction the decoder reads from a table word of nbits bits (log entry 16). -/
def decodeTableWord (nbits w : Nat) : Option Instr :=
  match decode (tableBytes nbits w) with
  | .ok (i, _) => some i
  | .error _ => none

end Sys2Proof
end

