-- ==== Sys2Proof/Machine/State.lean ====
section
/-! DEFINITION. The machine's state, as plain data: every piece of state spec/10_state.md R49 lists, the memory
(spec/20_memory.md R70), and the side of the machine that the outside drives (spec/60_exceptions.md R486: "Inputs per
step"). The faults and refusals a step can end in, and the state after reset. INVENTORY.md, '## State', gives each
field's rule and reset value. -/

namespace Sys2Proof.Machine

/-- The six flags of F (spec/10_state.md R28 and Table R28). -/
structure Flags where
  /-- S, bit 7 (R31) -/
  s : Bool
  /-- Z, bit 6 (R32) -/
  z : Bool
  /-- H, bit 4 (R33) -/
  h : Bool
  /-- P/V, bit 2 (R34) -/
  pv : Bool
  /-- N, bit 1 (R33) -/
  n : Bool
  /-- C, bit 0 (R35) -/
  c : Bool
deriving DecidableEq, Repr

/-- The flag register F, all eight bits: the six flags, and bits 5 and 3, storage without an architectural meaning
(spec/10_state.md R28, R29). The byte view is FlagReg.toByte (Machine/Flags.lean). -/
structure FlagReg extends Flags where
  /-- bit 5 -/
  f5 : Bool
  /-- bit 3 -/
  f3 : Bool
deriving DecidableEq, Repr

/-- IM, the interrupt mode (spec/10_state.md R38: one of 0, 1, 2). -/
inductive IntMode where
  | mode0
  | mode1
  | mode2
deriving DecidableEq, Repr

/-- clock_state, the state of the clock generator (spec/10_state.md R43). A step treats the waits as instantaneous
(spec/60_exceptions.md R486), so `warmingUp` is never the state between two steps (log entry 22). -/
inductive ClockState where
  | running
  | idle1
  | idle2
  | stopped
  | warmingUp
deriving DecidableEq, Repr

/-- The RESET pin as the environment reports it for one step: at "1"; at "0" for at least 3 clocks (and, in STOP mode,
until the oscillator is stable), from the start of the step or from after some of its bus cycles; or at "0" for too
short a time (spec/70_reset_and_hazards.md R520, R522, R524). -/
inductive ResetPin where
  | inactive
  | asserted
  /-- from after `cycles` of the bus cycles this step would do; `corrupts` says that the memory write cycle then in
  progress, if it is one, corrupts the byte it addresses (R522) -/
  | during (cycles : Nat) (corrupts : Bool)
  | tooShort
deriving DecidableEq, Repr

/-- The levels of the input pins in one step (spec/10_state.md R42, R44; spec/60_exceptions.md R486). WAIT changes no
state and is left out (spec/20_memory.md R92; log entry 9). -/
structure Pins where
  /-- RESET -/
  reset : ResetPin
  /-- BUSREQ is at "0" -/
  busreqLow : Bool
  /-- INT is at "0" at this step's sampling point -/
  intLow : Bool
  /-- INT was at "0" in this step but is back at "1" at the sampling point (spec/60_exceptions.md R473: "even when INT
  is removed before the sampling point") -/
  intPulse : Bool
  /-- MS1 -/
  ms1 : Bool
  /-- MS2 -/
  ms2 : Bool
deriving DecidableEq, Repr

/-- What the outside does before one step: the pin levels, whether NMI had a falling edge since the last step
(spec/10_state.md R40), and, while it holds the bus in answer to BUSREQ, the bytes another bus master writes
(spec/20_memory.md R87). -/
structure StepInput where
  pins : Pins
  nmiEdge : Bool
  busWrites : List (Word × Byte)
deriving DecidableEq, Repr

/-- What the system attaches to a range of addresses (spec/20_memory.md R83, R84; 92_eei_decisions.md D15). -/
inductive RegionKind where
  /-- read and written -/
  | ram
  /-- read; a write has no effect on any state -/
  | rom
  /-- a memory-mapped device: a read takes the byte the device supplies, a write is the device's own affair -/
  | device
  /-- nothing drives the data bus: a read gives any value, a write has no effect -/
  | empty
deriving DecidableEq, Repr

/-- One entry of the memory map, a parameter of the system (spec/00_scope.md Table R14). -/
structure Region where
  first : Word
  last : Word
  kind : RegionKind
deriving DecidableEq, Repr

/-- One entry of the I/O map, a parameter of the system (spec/00_scope.md Table R14; 92_eei_decisions.md D15): the port
addresses p with p AND mask = value, so that a system may decode eight bits of the port address or all sixteen
(spec/20_memory.md R71), and whether a peripheral answers there. -/
structure PortDecode where
  mask : Word
  value : Word
  answers : Bool
deriving DecidableEq, Repr

/-- One bus cycle as it appears on the pins (spec/20_memory.md Table R95, R96, R97): its kind, the address bus and the
data bus. -/
inductive BusCycle where
  /-- operation code fetch (M1), T1 and T2: PC and the byte read (R79) -/
  | fetch (a : Word) (v : Byte)
  /-- the second half of an M1 cycle: I : R on the address bus (R94) -/
  | refresh (a : Word)
  /-- operation code fetch (M1), T1 and T2, of a NOP of the halt state: PC, which does not advance, and the byte
  memory holds there, if it holds a known one; the MPU executes a NOP whatever the byte is (R79; 60_exceptions.md R465) -/
  | haltFetch (a : Word) (v : Option Byte)
  /-- memory read (R72) -/
  | memRead (a : Word) (v : Byte)
  /-- memory write (R73) -/
  | memWrite (a : Word) (v : Byte)
  /-- input (R77) -/
  | input (port : Word) (v : Byte)
  /-- output (R78) -/
  | output (port : Word) (v : Byte)
  /-- maskable interrupt acknowledge: PC and the byte the device supplies (R96; 60_exceptions.md R477) -/
  | intAck (a : Word) (v : Byte)
  /-- the M1-type cycle of the non-maskable interrupt, whose data the MPU ignores (R96): PC, and the byte memory holds
  there, if it holds a known one -/
  | nmiAck (a : Word) (v : Option Byte)
  /-- the bus is granted to another master, and the bytes that master writes to memory while it has the bus (R87) -/
  | granted (writes : List (Word × Byte))
  /-- RESET is at "0": the address and data buses float and the control outputs are inactive
  (spec/70_reset_and_hazards.md R522) -/
  | resetHeld
deriving DecidableEq, Repr

/-- Memory: the bytes the system's RAM and ROM hold, as (address, byte) pairs with strictly rising addresses below
65536 (the canonical form, Memory.wf in Machine/Ops.lean). An unlisted address holds no known byte: each read of it
gives a free value (93_implementation_defined.md U7; log entry 1). -/
abbrev Memory := List Host.Cell

/-- The whole state of the machine. -/
structure State where
  /-- A, the accumulator (spec/10_state.md R20) -/
  a : Byte
  /-- F, the flag register (R28) -/
  f : FlagReg
  /-- B (R20) -/
  b : Byte
  /-- C (R20) -/
  c : Byte
  /-- D (R20) -/
  d : Byte
  /-- E (R20) -/
  e : Byte
  /-- H (R20) -/
  h : Byte
  /-- L (R20) -/
  l : Byte
  /-- A' of the alternate set (R22) -/
  aAlt : Byte
  /-- F' (R22) -/
  fAlt : FlagReg
  /-- B' (R22) -/
  bAlt : Byte
  /-- C' (R22) -/
  cAlt : Byte
  /-- D' (R22) -/
  dAlt : Byte
  /-- E' (R22) -/
  eAlt : Byte
  /-- H' (R22) -/
  hAlt : Byte
  /-- L' (R22) -/
  lAlt : Byte
  /-- IX (R23) -/
  ix : Word
  /-- IY (R23) -/
  iy : Word
  /-- SP (R24) -/
  sp : Word
  /-- PC (R25) -/
  pc : Word
  /-- I, the interrupt vector register (R26) -/
  i : Byte
  /-- R, the memory refresh register (R27) -/
  r : Byte
  /-- IFF1 (R37) -/
  iff1 : Bool
  /-- IFF2 (R37) -/
  iff2 : Bool
  /-- IM (R38) -/
  im : IntMode
  /-- halted (R39) -/
  halted : Bool
  /-- nmi_pending, the internal NMI F/F (R40) -/
  nmiPending : Bool
  /-- ei_shadow (R41) -/
  eiShadow : Bool
  /-- bus_granted (R45) -/
  busGranted : Bool
  /-- clock_state (R43) -/
  clockState : ClockState
  /-- memory (spec/20_memory.md R70) -/
  mem : Memory
  /-- the memory map; an address in no region is RAM (log entry 2) -/
  memMap : List Region
  /-- the I/O map; a port address that no entry decodes answers (log entry 2) -/
  ioMap : List PortDecode
  /-- the pin levels of the step in progress, or of the last one (R42, R44) -/
  pins : Pins
  /-- the MODEL's: what the outside does before each coming step, the next step first; when the list is empty the pins
  keep their levels (log entry 7) -/
  inputs : List StepInput
  /-- the MODEL's: for each coming bus cycle of the MPU, the next first, `none` where BUSREQ is at "1" in its last
  state, or `some` of the bytes another bus master writes while it holds the bus after that cycle
  (spec/20_memory.md R88); when the list is empty BUSREQ is at "1" (log entry 8) -/
  grants : List (Option (List (Word × Byte)))
  /-- the MODEL's: what drives the data bus in each coming input, acknowledge or device read cycle, the next first,
  `none` where nothing answers; when the list is empty nothing answers (R49; log entry 6) -/
  dataIn : List (Option Byte)
  /-- the MODEL's: whether BUSREQ at "0" was answered in the last step in which the clock was stopped, a free value
  (93_implementation_defined.md U13; log entry 21) -/
  sleepBusack : Bool
  /-- the MODEL's: how many free values have been drawn (log entry 5) -/
  draws : Nat
  /-- the MODEL's record of the outputs of R49: the bus cycles done so far, newest first (log entry 18) -/
  trace : List BusCycle
deriving DecidableEq, Repr

/-- The ways the machine stops where the spec leaves its whole state open. -/
inductive Fault where
  /-- Raised by a step in which RESET is at "0" for less than 3 clocks, or is released in STOP mode before the
  oscillator is stable: the spec makes the entire state "any value; equivalently a model refuses to continue"
  (93_implementation_defined.md U9). Safe: nothing is claimed of such a run (log entry 11). -/
  | resetTooShort
deriving DecidableEq, Repr

/-- The steps the spec tells a model to refuse. -/
inductive Refusal where
  /-- Raised by an arm of exec whose instruction has no meaning yet. No arm raises it. Safe. -/
  | notModelled (mnemonic : String)
  /-- Raised by a step that fetches an unassigned encoding (spec/30_encoding.md R129, R139;
  93_implementation_defined.md U5: "refuse"). Safe (log entry 14). -/
  | unassigned (why : Reject)
  /-- Raised by an interrupt acknowledge in mode 0 whose byte is not a restart (spec/60_exceptions.md R456;
  93_implementation_defined.md U6: "refuse"). Safe (log entry 15). -/
  | mode0NotRestart (v : Byte)
  /-- Raised by a step in which MS1 or MS2 changes while the MPU is halted (93_implementation_defined.md U14:
  "refuse"). Safe (log entry 12). -/
  | modeChangedWhileHalted
deriving DecidableEq, Repr

/-- Pins at rest: RESET, BUSREQ and INT at "1", and MS1 = MS2 = 1, the RUN mode. DESIGN CHOICE (log entry 7). -/
def Pins.quiet : Pins :=
  { reset := .inactive, busreqLow := false, intLow := false, intPulse := false, ms1 := true, ms2 := true }

/-- F with every bit 0: the value named for F and F' at reset. DESIGN CHOICE, unsafe (log entry 3). -/
def FlagReg.zero : FlagReg :=
  { s := false, z := false, h := false, pv := false, n := false, c := false, f5 := false, f3 := false }

/-- The machine right after RESET (spec/10_state.md Table R48; spec/70_reset_and_hazards.md R521). The registers the
table leaves unspecified are 0 here: DESIGN CHOICE, unsafe (log entry 3). -/
def State.reset : State :=
  { a := 0, f := FlagReg.zero, b := 0, c := 0, d := 0, e := 0, h := 0, l := 0,
    aAlt := 0, fAlt := FlagReg.zero, bAlt := 0, cAlt := 0, dAlt := 0, eAlt := 0, hAlt := 0, lAlt := 0,
    ix := 0, iy := 0, sp := 0, pc := 0, i := 0, r := 0,
    iff1 := false, iff2 := false, im := .mode0,
    halted := false, nmiPending := false, eiShadow := false, busGranted := false, clockState := .running,
    mem := [], memMap := [], ioMap := [], pins := Pins.quiet, inputs := [], grants := [], dataIn := [],
    sleepBusack := false, draws := 0, trace := [] }

end Sys2Proof.Machine
end

