-- ==== Sys2Proof/Machine/Ops.lean ====
section
/-! DEFINITION. The named operations over memory, the two address spaces, the stack, the refresh counter and the free
values (spec/20_memory.md), the fetch of an instruction (spec/30_encoding.md R128), and the taking of an interrupt and
the return from one (spec/60_exceptions.md R453 to R458). Every bus cycle of an operation is noted in the trace, in
the order the spec lists them (spec/20_memory.md R82), and ends with the point at which another bus master may take the
bus (R88). -/

namespace Sys2Proof.Machine

/-- What a step, or an instruction's meaning, answers. -/
abbrev Result := Host.Outcome State Fault Refusal

/-- What the work of a step comes to, with the state its bus cycles have reached, also where it then stops: RESET may
fall before that point (spec/70_reset_and_hazards.md R522). -/
inductive Ending where
  | next (s : State)
  | fault (why : Fault) (s : State)
  | refused (why : Refusal) (s : State)
deriving DecidableEq, Repr

/-- The outcome of a step that comes to its end. -/
def Ending.result : Ending → Result
  | .next s => .next s
  | .fault why _ => .fault why
  | .refused why _ => .refused why

/-- The state that the bus cycles of a step have reached. -/
def Ending.reached : Ending → State
  | .next s | .fault _ s | .refused _ s => s

/-! Memory as data. -/

/-- The byte memory holds at an address, if it holds a known one. -/
def Memory.byteAt : Memory → Nat → Option Byte
  | [], _ => none
  | (k, v) :: m, a => if k = a then some v else Memory.byteAt m a

/-- Memory with a byte stored: an entry in its place among the rising addresses. -/
def Memory.store : Memory → Nat → Byte → Memory
  | [], a, v => [(a, v)]
  | (k, w) :: m, a, v =>
    if a < k then (a, v) :: (k, w) :: m
    else if a = k then (a, v) :: m
    else (k, w) :: Memory.store m a v

/-- The listed addresses rise strictly, from lo on, and lie below 65536. -/
def Memory.risesFrom : Nat → Memory → Bool
  | _, [] => true
  | lo, (k, _) :: m => decide (lo ≤ k) && decide (k < 65536) && Memory.risesFrom (k + 1) m

/-- The canonical form of memory. -/
def Memory.wf (m : Memory) : Bool := Memory.risesFrom 0 m

/-! The memory map. -/

/-- The address lies in the region. -/
def Region.holds (g : Region) (a : Word) : Bool := decide (g.first ≤ a) && decide (a ≤ g.last)

/-- What the map attaches to an address: the first region that holds it, RAM where none does (log entry 2). -/
def kindIn : List Region → Word → RegionKind
  | [], _ => .ram
  | g :: gs, a => if g.holds a then g.kind else kindIn gs a

/-- What stands at an address (spec/20_memory.md R84). -/
def State.kindAt (s : State) (a : Word) : RegionKind := kindIn s.memMap a

/-! Free values and the outside's bytes. -/

/-- A free value: any byte, not the same one each time (spec/00_scope.md R11; log entry 5). -/
def State.draw (s : State) : Byte × State := (Config.freeByte s.draws, { s with draws := s.draws + 1 })

/-- A free word, two free bytes (log entry 5). -/
def State.drawWord (s : State) : Word × State :=
  (joinBytes s.draw.1 s.draw.2.draw.1, s.draw.2.draw.2)

/-- The byte the outside drives onto the data bus in an input, acknowledge or device read cycle: the next of dataIn,
or any byte where nothing answers (spec/20_memory.md R77, R84; 92_eei_decisions.md D15, D20; log entry 6). -/
def State.external (s : State) : Byte × State :=
  match s.dataIn with
  | some v :: rest => (v, { s with dataIn := rest })
  | none :: rest => State.draw { s with dataIn := rest }
  | [] => s.draw

/-! Bus cycles. -/

/-- Note a bus cycle. -/
def State.emit (s : State) (c : BusCycle) : State := { s with trace := c :: s.trace }

/-- The effect of a byte written to an address on the bus, by whichever master: RAM takes it; at ROM, at a device or
at an empty address no state of the machine changes (spec/20_memory.md R84). -/
def State.storeByte (s : State) (a : Word) (v : Byte) : State :=
  match s.kindAt a with
  | .ram => { s with mem := s.mem.store a.toNat v }
  | .rom | .device | .empty => s

/-- The bytes another bus master writes, in order (spec/20_memory.md R87). -/
def State.storeAll (s : State) : List (Word × Byte) → State
  | [] => s
  | w :: ws => State.storeAll (s.storeByte w.1 w.2) ws

/-- The last state of a bus cycle, where BUSREQ is sampled: the bus may change hands, and is taken back before the
next cycle (spec/20_memory.md R87, R88). -/
def State.endCycle (s : State) : State :=
  match s.grants with
  | [] => s
  | none :: rest => { s with grants := rest }
  | some ws :: rest => State.storeAll (State.emit { s with grants := rest } (.granted ws)) ws

/-- The byte on the data bus in a read of an address (spec/20_memory.md R70, R84; log entry 1 for an unlisted one). -/
def State.dataAt (s : State) (a : Word) : Byte × State :=
  match s.kindAt a with
  | .device => s.external
  | .empty => s.draw
  | .ram | .rom =>
    match s.mem.byteAt a.toNat with
    | some v => (v, s)
    | none => s.draw

/-- The byte that an M1 cycle puts on the data bus for nobody: the one RAM or ROM holds, if it holds a known one. What a
device or an open bus shows there is not known, and nothing takes it (log entry 18). -/
def State.ignoredAt (s : State) (a : Word) : Option Byte :=
  match s.kindAt a with
  | .ram | .rom => s.mem.byteAt a.toNat
  | .device | .empty => none

/-- MemRead(a, 1) (spec/20_memory.md R72). -/
def State.readByte (s : State) (a : Word) : Byte × State :=
  ((s.dataAt a).1, ((s.dataAt a).2.emit (.memRead a (s.dataAt a).1)).endCycle)

/-- MemWrite(a, 1, v) (spec/20_memory.md R73). -/
def State.writeByte (s : State) (a : Word) (v : Byte) : State :=
  ((s.storeByte a v).emit (.memWrite a v)).endCycle

/-- MemRead(a, 2): the low byte at a, then the high byte at a + 1 (spec/20_memory.md R72, R74). -/
def State.readWord (s : State) (a : Word) : Word × State :=
  let lo := s.readByte a
  let hi := lo.2.readByte (a + 1)
  (joinBytes hi.1 lo.1, hi.2)

/-- MemWrite(a, 2, v): the low byte at a, then the high byte at a + 1 (spec/20_memory.md R73, R74). -/
def State.writeWord (s : State) (a : Word) (v : Word) : State :=
  (s.writeByte a (loByte v)).writeByte (a + 1) (hiByte v)

/-- Push16(v): the high byte first, at SP - 1 (spec/20_memory.md R75). -/
def State.push16 (s : State) (v : Word) : State :=
  let s1 := State.writeByte { s with sp := s.sp - 1 } (s.sp - 1) (hiByte v)
  State.writeByte { s1 with sp := s.sp - 2 } (s.sp - 2) (loByte v)

/-- Pop16(): the low byte first (spec/20_memory.md R76). -/
def State.pop16 (s : State) : Word × State :=
  let lo := s.readByte s.sp
  let hi := State.readByte { lo.2 with sp := s.sp + 1 } (s.sp + 1)
  (joinBytes hi.1 lo.1, { hi.2 with sp := s.sp + 2 })

/-- What the I/O map says of a port address: the first entry that decodes it, an answer where none does
(log entry 2). -/
def portAnswersIn : List PortDecode → Word → Bool
  | [], _ => true
  | g :: gs, p => if p &&& g.mask = g.value then g.answers else portAnswersIn gs p

/-- A peripheral answers at the port address (spec/20_memory.md R71, R84). -/
def State.portAnswers (s : State) (port : Word) : Bool := portAnswersIn s.ioMap port

/-- The byte on the data bus in an input cycle: the one the peripheral puts there, or any byte where none answers
(spec/20_memory.md R77, R84; 93_implementation_defined.md U7). -/
def State.portIn (s : State) (port : Word) : Byte × State := if s.portAnswers port then s.external else s.draw

/-- IORead(port) (spec/20_memory.md R77). -/
def State.ioRead (s : State) (port : Word) : Byte × State :=
  ((s.portIn port).1, ((s.portIn port).2.emit (.input port (s.portIn port).1)).endCycle)

/-- IOWrite(port, v): the effect is the peripheral's (spec/20_memory.md R78). -/
def State.ioWrite (s : State) (port : Word) (v : Byte) : State := (s.emit (.output port v)).endCycle

/-! M1 cycles and the fetch. -/

/-- One increment of R: a 7-bit counter beside a kept bit 7 (spec/10_state.md R27). -/
def inc7 (r : Byte) : Byte := (r &&& 0x80) ||| ((r + 1) &&& 0x7F)

/-- The second half of an M1 cycle: I : R on the address bus, then R advances (spec/20_memory.md R94). -/
def State.refreshCycle (s : State) : State :=
  State.endCycle { s.emit (.refresh (joinBytes s.i s.r)) with r := inc7 s.r }

/-- An operation code fetch cycle (M1) at PC (spec/20_memory.md R79). -/
def State.fetchM1 (s : State) : Byte × State :=
  ((s.dataAt s.pc).1,
    State.refreshCycle { (s.dataAt s.pc).2.emit (.fetch s.pc (s.dataAt s.pc).1) with pc := s.pc + 1 })

/-- A further byte of the instruction, read with an ordinary memory read cycle at PC (spec/20_memory.md R79). -/
def State.fetchOperand (s : State) : Byte × State :=
  ((s.readByte s.pc).1, { (s.readByte s.pc).2 with pc := s.pc + 1 })

/-- The next byte is an opcode byte read with M1: the first byte, and the second after CB, ED, DD or FD
(spec/20_memory.md R79). -/
def nextIsM1 : List Byte → Bool
  | [] => true
  | [b0] => isPrefixByte b0
  | _ => false

/-- The next byte of an instruction of which `got` has been read. -/
def State.fetchNext (s : State) (got : List Byte) : Byte × State :=
  if nextIsM1 got then s.fetchM1 else s.fetchOperand

/-- What a fetch finds: an instruction, or bytes that are none, and the state after they were read. -/
inductive Fetched where
  | instr (i : Instr) (s : State)
  | rejected (why : Reject) (s : State)
deriving DecidableEq, Repr

/-- Read bytes at PC until they are an instruction or none (spec/30_encoding.md R128): `got` is what has been read, and
at most `fuel` more bytes are (R110: an instruction has at most 4). -/
def State.fetchFrom : Nat → List Byte → State → Fetched
  | fuel, got, s =>
    match decode got with
    | .ok (i, _) => .instr i s
    | .error .truncated =>
      match fuel with
      | 0 => .rejected .truncated s
      | n + 1 => State.fetchFrom n (got ++ [(s.fetchNext got).1]) (s.fetchNext got).2
    | .error why => .rejected why s

/-- Fetch and decode at PC: afterwards PC is past the instruction and R has advanced once per M1 cycle
(spec/00_scope.md R9). -/
def State.fetch (s : State) : Fetched := State.fetchFrom 4 [] s

/-! Taking an interrupt, and returning from one. -/

/-- Leave the halt state: halted <- 0, clock_state <- running. -/
def State.unhalt (s : State) : State := { s with halted := false, clockState := .running }

/-- AcceptNMI() (spec/60_exceptions.md R453): an M1-type cycle whose data is ignored, then PC is pushed and execution
continues at 0066H. IFF2 keeps its value. -/
def State.acceptNMI (s : State) : State :=
  let s1 := { s.unhalt with nmiPending := false, iff1 := false }
  let s2 := State.refreshCycle (s1.emit (.nmiAck s1.pc (s1.ignoredAt s1.pc)))
  { s2.push16 s2.pc with pc := 0x0066 }

/-- The maskable interrupt acknowledge cycle: PC on the address bus, the device's byte V, R advanced
(spec/20_memory.md R96; spec/60_exceptions.md R477). DEDUCED: its second half is the refresh part that R94 gives every
M1 cycle, with MREQ at "0", and "no MREQ" holds of its first half (log entry 23). -/
def State.ackCycle (s : State) : Byte × State :=
  (s.external.1, State.refreshCycle (s.external.2.emit (.intAck s.pc s.external.1)))

/-- A call to a fixed address: PC is pushed and becomes the target. -/
def State.callTo (s : State) (target : Word) : State := { s.push16 s.pc with pc := target }

/-- V is one of the eight restart opcodes C7H, CFH, ..., FFH (spec/60_exceptions.md R456). -/
def isRestartOpcode (v : Byte) : Bool := v &&& 0xC7 == 0xC7

/-- AcceptINT() (spec/60_exceptions.md R454, R456 to R458), by the interrupt mode. -/
def State.acceptINT (s : State) : Ending :=
  let s1 := { s.unhalt with iff1 := false, iff2 := false }
  let v := s1.ackCycle.1
  let s2 := s1.ackCycle.2
  match s2.im with
  | .mode0 => if isRestartOpcode v then .next (s2.callTo (zext16 (v &&& 0x38))) else .refused (.mode0NotRestart v) s2
  | .mode1 => .next (s2.callTo 0x0038)
  | .mode2 =>
    let s3 := s2.push16 s2.pc
    let w := s3.readWord (joinBytes s3.i v)
    .next { w.2 with pc := w.1 }

/-- The P/V flag that LD A,I or LD A,R wrote becomes a free value when an interrupt is accepted at the sampling point
that ends it (spec/60_exceptions.md R454 (e); 93_implementation_defined.md U8). -/
def State.freePV (s : State) (lastLdAIR : Bool) : State :=
  if lastLdAIR then { s.draw.2 with f := { s.f with pv := s.draw.1.getLsbD 2 } } else s

/-- Sample(): the interrupt sampling point (spec/60_exceptions.md R452, R455, R459, Listing R486). -/
def State.sample (s : State) (lastLdAIR : Bool) : Ending :=
  if s.nmiPending then .next (s.freePV lastLdAIR).acceptNMI
  else if s.pins.intLow && s.iff1 && !s.eiShadow then (s.freePV lastLdAIR).acceptINT
  else .next s

/-- PC <- Pop16(), the return common to RET, RETI and RETN (spec/48_jump_call_return.md R413, R415, R416). -/
def State.returnPop (s : State) : State := { s.pop16.2 with pc := s.pop16.1 }

/-- The return from the maskable interrupt, RETI: IFF1 becomes a free bit where it differs from IFF2
(spec/48_jump_call_return.md R415; 93_implementation_defined.md U11). -/
def State.returnFromInt (s : State) : State :=
  let t := s.returnPop
  if t.iff1 = t.iff2 then t else { t.draw.2 with iff1 := t.draw.1.getLsbD 0 }

/-- The return from the non-maskable interrupt, RETN: IFF1 <- IFF2 (spec/48_jump_call_return.md R416). -/
def State.returnFromNmi (s : State) : State := { s.returnPop with iff1 := s.iff2 }

end Sys2Proof.Machine
end

