-- ==== Sys2Proof/Machine/Flags.lean ====
section
/-! DEFINITION. The flag register as a byte, the write of the flags, and every flag computation of the spec: the 8-bit
and 16-bit additions and subtractions, the logic operations, the shifts and rotates, DAA. Sums and differences are
computed on integers and narrowed at the end (spec/00_scope.md R6). -/

namespace Sys2Proof.Machine

/-- F as a byte (spec/10_state.md Table R28). -/
def FlagReg.toByte (f : FlagReg) : Byte :=
  BitVec.ofBool f.s ++ BitVec.ofBool f.z ++ BitVec.ofBool f.f5 ++ BitVec.ofBool f.h
    ++ BitVec.ofBool f.f3 ++ BitVec.ofBool f.pv ++ BitVec.ofBool f.n ++ BitVec.ofBool f.c

/-- The flag register a byte holds (spec/10_state.md Table R28). -/
def FlagReg.ofByte (v : Byte) : FlagReg :=
  { s := v.getLsbD 7, z := v.getLsbD 6, f5 := v.getLsbD 5, h := v.getLsbD 4,
    f3 := v.getLsbD 3, pv := v.getLsbD 2, n := v.getLsbD 1, c := v.getLsbD 0 }

/-- An instruction that writes at least one flag: the six flags become what its rule gives, and bits 5 and 3 become
free values (spec/10_state.md R29 (b); 93_implementation_defined.md U1). The rule's flags are given as a function of
one free byte, whose bit at a flag's own place stands for that flag where the rule leaves it open (R30). -/
def State.setFlags (s : State) (fl : Byte → Flags) : State :=
  { s.draw.2 with
    f := { toFlags := fl s.draw.1, f5 := s.draw.1.getLsbD 5, f3 := s.draw.1.getLsbD 3 } }

/-- `add8(a, b, c)` (spec/43_arith8.md R230). -/
def add8 (x y : Byte) (c : Bool) : Byte × Flags :=
  let sum := x.toNat + y.toNat + c.toNat
  let res := BitVec.ofNat 8 sum
  (res, {
    s := res.getLsbD 7
    z := res == 0
    h := decide (x.toNat % 16 + y.toNat % 16 + c.toNat > 15)
    pv := x.getLsbD 7 == y.getLsbD 7 && res.getLsbD 7 != x.getLsbD 7
    n := false
    c := decide (sum > 255) })

/-- `sub8(a, b, c)` (spec/43_arith8.md R231). -/
def sub8 (x y : Byte) (c : Bool) : Byte × Flags :=
  let dif : Int := (x.toNat : Int) - (y.toNat : Int) - (c.toNat : Int)
  let res := BitVec.ofInt 8 dif
  (res, {
    s := res.getLsbD 7
    z := res == 0
    h := decide (((x.toNat % 16 : Nat) : Int) - ((y.toNat % 16 : Nat) : Int) - (c.toNat : Int) < 0)
    pv := x.getLsbD 7 != y.getLsbD 7 && res.getLsbD 7 != x.getLsbD 7
    n := true
    c := decide (dif < 0) })

/-- The flags of a logic operation's result: H is 1 for AND, 0 for OR and XOR (spec/43_arith8.md R232). -/
def logicFlags (h : Bool) (res : Byte) : Flags :=
  { s := res.getLsbD 7, z := res == 0, h := h, pv := parity8 res, n := false, c := false }

/-- `and8(a, b)` (spec/43_arith8.md R232). -/
def and8 (x y : Byte) : Byte × Flags := (x &&& y, logicFlags true (x &&& y))

/-- `or8(a, b)` (spec/43_arith8.md R232). -/
def or8 (x y : Byte) : Byte × Flags := (x ||| y, logicFlags false (x ||| y))

/-- `xor8(a, b)` (spec/43_arith8.md R232). -/
def xor8 (x y : Byte) : Byte × Flags := (x ^^^ y, logicFlags false (x ^^^ y))

/-- INC and DEC write every flag but C (spec/43_arith8.md R274, R278). -/
def keepCarry (old : Flags) (fl : Flags) : Flags := { fl with c := old.c }

/-- `add16(a, b, c)` (spec/45_arith16.md R310). -/
def add16 (x y : Word) (c : Bool) : Word × Flags :=
  let sum := x.toNat + y.toNat + c.toNat
  let res := BitVec.ofNat 16 sum
  (res, {
    s := res.getLsbD 15
    z := res == 0
    h := decide (x.toNat % 4096 + y.toNat % 4096 + c.toNat > 4095)
    pv := x.getLsbD 15 == y.getLsbD 15 && res.getLsbD 15 != x.getLsbD 15
    n := false
    c := decide (sum > 65535) })

/-- `sub16(a, b, c)` (spec/45_arith16.md R310). -/
def sub16 (x y : Word) (c : Bool) : Word × Flags :=
  let dif : Int := (x.toNat : Int) - (y.toNat : Int) - (c.toNat : Int)
  let res := BitVec.ofInt 16 dif
  (res, {
    s := res.getLsbD 15
    z := res == 0
    h := decide (((x.toNat % 4096 : Nat) : Int) - ((y.toNat % 4096 : Nat) : Int) - (c.toNat : Int) < 0)
    pv := x.getLsbD 15 != y.getLsbD 15 && res.getLsbD 15 != x.getLsbD 15
    n := true
    c := decide (dif < 0) })

/-- ADD HL,ss, ADD IX,pp and ADD IY,rr write H, N and C only (spec/45_arith16.md R311). -/
def addPairFlags (old : Flags) (fl : Flags) : Flags := { old with h := fl.h, n := false, c := fl.c }

/-! The shifts and rotates, each with its carry-out (spec/46_rotate_shift.md Table R330). -/

/-- `rlc(v)`: v[6:0] : v[7]. -/
def rlc (v : Byte) : Byte × Bool := (v.extractLsb' 0 7 ++ v.extractLsb' 7 1, v.getLsbD 7)

/-- `rrc(v)`: v[0] : v[7:1]. -/
def rrc (v : Byte) : Byte × Bool := (v.extractLsb' 0 1 ++ v.extractLsb' 1 7, v.getLsbD 0)

/-- `rl(v, cin)`: v[6:0] : cin. -/
def rl (cin : Bool) (v : Byte) : Byte × Bool := (v.extractLsb' 0 7 ++ BitVec.ofBool cin, v.getLsbD 7)

/-- `rr(v, cin)`: cin : v[7:1]. -/
def rr (cin : Bool) (v : Byte) : Byte × Bool := (BitVec.ofBool cin ++ v.extractLsb' 1 7, v.getLsbD 0)

/-- `sla(v)`: v[6:0] : 0. -/
def sla (v : Byte) : Byte × Bool := (v.extractLsb' 0 7 ++ 0#1, v.getLsbD 7)

/-- `sra(v)`: v[7] : v[7:1]. -/
def sra (v : Byte) : Byte × Bool := (v.extractLsb' 7 1 ++ v.extractLsb' 1 7, v.getLsbD 0)

/-- `srl(v)`: 0 : v[7:1]. -/
def srl (v : Byte) : Byte × Bool := (0#1 ++ v.extractLsb' 1 7, v.getLsbD 0)

/-- The flags of the CB-prefixed shifts and rotates (spec/46_rotate_shift.md R331). -/
def shiftFlags (r : Byte × Bool) : Flags :=
  { s := r.1.getLsbD 7, z := r.1 == 0, h := false, pv := parity8 r.1, n := false, c := r.2 }

/-- The flags of RLCA, RLA, RRCA, RRA: H, N and C only (spec/46_rotate_shift.md R331). -/
def accRotateFlags (old : Flags) (cout : Bool) : Flags := { old with h := false, n := false, c := cout }

/-- The flags that a loaded byte gives, P/V as stated, C kept (LD A,I; LD A,R; IN r,(C); RLD; RRD). -/
def loadedFlags (old : Flags) (v : Byte) (pv : Bool) : Flags :=
  { s := v.getLsbD 7, z := v == 0, h := false, pv := pv, n := false, c := old.c }

/-- DAA's correction and carry (spec/44_general_cpu_control.md R290). -/
def daaCorrection (a : Byte) (fl : Flags) : Byte × Bool :=
  let low : Byte := if fl.h || decide (a.toNat % 16 > 9) then 0x06 else 0x00
  if fl.c || decide (a.toNat > 0x99) then (low + 0x60, true) else (low, fl.c)

/-- DAA: the adjusted A and the carry (spec/44_general_cpu_control.md R290). -/
def daa (a : Byte) (fl : Flags) : Byte × Bool :=
  let corr := daaCorrection a fl
  (if fl.n then a - corr.1 else a + corr.1, corr.2)

/-- DAA's flags, H open: u is the free byte (R290; 93_implementation_defined.md U3). -/
def daaFlags (old : Flags) (r : Byte × Bool) (u : Byte) : Flags :=
  { s := r.1.getLsbD 7, z := r.1 == 0, h := u.getLsbD 4, pv := parity8 r.1, n := old.n, c := r.2 }

/-- BIT's flags, S and P/V open (spec/47_bit.md R380; 93_implementation_defined.md U2). -/
def bitFlags (old : Flags) (bit : Bool) (u : Byte) : Flags :=
  { s := u.getLsbD 7, z := !bit, h := true, pv := u.getLsbD 2, n := false, c := old.c }

/-- The flags of LDI, LDD and their repeating forms (spec/42_exchange_block.md R216). -/
def transferFlags (old : Flags) (bc : Word) : Flags := { old with h := false, n := false, pv := bc != 0 }

/-- The flags of CPI, CPD and their repeating forms: cmp is the flags of A - (HL) (spec/42_exchange_block.md R220). -/
def searchFlags (old cmp : Flags) (bc : Word) : Flags :=
  { s := cmp.s, z := cmp.z, h := cmp.h, pv := bc != 0, n := true, c := old.c }

/-- The flags of the block input and output instructions: Z says that B is 0, the others are open (spec/49_io.md
R432; 93_implementation_defined.md U4). -/
def blockIoFlags (b : Byte) (u : Byte) : Flags :=
  { s := u.getLsbD 7, z := b == 0, h := u.getLsbD 4, pv := u.getLsbD 2, n := u.getLsbD 1, c := u.getLsbD 0 }

end Sys2Proof.Machine
end

