-- ==== Sys2Proof/Machine/Operands.lean ====
section
/-! DEFINITION. The operand forms: 8-bit registers, register pairs, indexed addresses, conditions, bit numbers, and
the read-modify-write of a memory operand (spec/10_state.md R20 to R25, R36; spec/30_encoding.md R112 to R123). -/

namespace Sys2Proof.Machine

/-- BC = B : C (spec/10_state.md R21). -/
def State.bc (s : State) : Word := joinBytes s.b s.c

/-- DE = D : E (R21). -/
def State.de (s : State) : Word := joinBytes s.d s.e

/-- HL = H : L (R21). -/
def State.hl (s : State) : Word := joinBytes s.h s.l

/-- AF = A : F (R21). -/
def State.af (s : State) : Word := joinBytes s.a s.f.toByte

/-- Writing BC writes B and C (R21). -/
def State.setBC (s : State) (v : Word) : State := { s with b := hiByte v, c := loByte v }

/-- Writing DE writes D and E (R21). -/
def State.setDE (s : State) (v : Word) : State := { s with d := hiByte v, e := loByte v }

/-- Writing HL writes H and L (R21). -/
def State.setHL (s : State) (v : Word) : State := { s with h := hiByte v, l := loByte v }

/-- Writing AF writes A and all eight bits of F (R21, R29 (a)). -/
def State.setAF (s : State) (v : Word) : State := { s with a := hiByte v, f := FlagReg.ofByte (loByte v) }

/-- `r8[code]` (spec/30_encoding.md R112). -/
def State.reg8 (s : State) : R8 → Byte
  | .b => s.b
  | .c => s.c
  | .d => s.d
  | .e => s.e
  | .h => s.h
  | .l => s.l
  | .a => s.a

/-- `r8[code] <- v`. -/
def State.setReg8 (s : State) (r : R8) (v : Byte) : State :=
  match r with
  | .b => { s with b := v }
  | .c => { s with c := v }
  | .d => { s with d := v }
  | .e => { s with e := v }
  | .h => { s with h := v }
  | .l => { s with l := v }
  | .a => { s with a := v }

/-- `r16dd[code]` (spec/30_encoding.md R113). -/
def State.regDD (s : State) : RegDD → Word
  | .bc => s.bc
  | .de => s.de
  | .hl => s.hl
  | .sp => s.sp

/-- `r16dd[code] <- v`. -/
def State.setRegDD (s : State) (p : RegDD) (v : Word) : State :=
  match p with
  | .bc => s.setBC v
  | .de => s.setDE v
  | .hl => s.setHL v
  | .sp => { s with sp := v }

/-- `r16qq[code]` (spec/30_encoding.md R114). -/
def State.regQQ (s : State) : RegQQ → Word
  | .bc => s.bc
  | .de => s.de
  | .hl => s.hl
  | .af => s.af

/-- `r16qq[code] <- v`. -/
def State.setRegQQ (s : State) (p : RegQQ) (v : Word) : State :=
  match p with
  | .bc => s.setBC v
  | .de => s.setDE v
  | .hl => s.setHL v
  | .af => s.setAF v

/-- `r16pp[code]` (spec/30_encoding.md R115). -/
def State.regPP (s : State) : RegPP → Word
  | .bc => s.bc
  | .de => s.de
  | .ix => s.ix
  | .sp => s.sp

/-- `r16rr[code]` (spec/30_encoding.md R116). -/
def State.regRR (s : State) : RegRR → Word
  | .bc => s.bc
  | .de => s.de
  | .iy => s.iy
  | .sp => s.sp

/-- The effective address IX + d (spec/30_encoding.md R122). -/
def State.eaIX (s : State) (d : Byte) : Word := s.ix + sext16 d

/-- The effective address IY + d (spec/30_encoding.md R122). -/
def State.eaIY (s : State) (d : Byte) : Word := s.iy + sext16 d

/-- `cond(ccc)` (spec/10_state.md R36). -/
def condHolds (f : Flags) : Cond → Bool
  | .nz => !f.z
  | .z => f.z
  | .nc => !f.c
  | .c => f.c
  | .po => !f.pv
  | .pe => f.pv
  | .p => !f.s
  | .m => f.s

/-- PC <- PC + sext(e) (spec/30_encoding.md R123). -/
def State.jumpRel (s : State) (e : Byte) : State := { s with pc := s.pc + sext16 e }

/-- The byte with bit b alone (spec/30_encoding.md R118). -/
def bitMask (b : Nat) : Byte := 1#8 <<< b

/-- SET's result (spec/47_bit.md R384). -/
def setBit (b : Nat) (v : Byte) : Byte := v ||| bitMask b

/-- RES's result (spec/47_bit.md R388). -/
def resBit (b : Nat) (v : Byte) : Byte := v &&& ~~~(bitMask b)

/-- Read a byte, change it, write it back: two bus cycles (spec/20_memory.md R81). -/
def State.modifyByte (s : State) (a : Word) (g : Byte → Byte) : State :=
  (s.readByte a).2.writeByte a (g (s.readByte a).1)

end Sys2Proof.Machine
end

