-- ==== Sys2Proof/Machine/Arith16.lean ====
section
/-! DEFINITION. The meanings of the 16-bit arithmetic group (R311 to R321) of spec/45_arith16.md.
Each starts from the state of spec/00_scope.md R9: PC is past the instruction, and R has advanced once for each of its
M1 cycles. None stops: no instruction of this processor can fault (spec/60_exceptions.md R450). -/

namespace Sys2Proof.Machine

/-- ADD HL,ss and its IX and IY twins: the sum, then H, N and C (spec/45_arith16.md R311, R314, R315). -/
def State.addToPair (s : State) (x y : Word) (put : State → Word → State) : State :=
  (put s (add16 x y false).1).setFlags fun _ => addPairFlags s.f.toFlags (add16 x y false).2

/-- `ADD HL,ss`: HL <- HL + ss; H, N, C written (spec/45_arith16.md R311). -/
def execAddHlSs (dd : RegDD) (s : State) : Result := .next (s.addToPair s.hl (s.regDD dd) State.setHL)

/-- `ADC HL,ss`: HL <- HL + ss + C; all six flags (spec/45_arith16.md R312). -/
def execAdcHlSs (dd : RegDD) (s : State) : Result :=
  .next (State.setFlags (s.setHL (add16 s.hl (s.regDD dd) s.f.c).1) fun _ => (add16 s.hl (s.regDD dd) s.f.c).2)

/-- `SBC HL,ss`: HL <- HL - ss - C; all six flags (spec/45_arith16.md R313). -/
def execSbcHlSs (dd : RegDD) (s : State) : Result :=
  .next (State.setFlags (s.setHL (sub16 s.hl (s.regDD dd) s.f.c).1) fun _ => (sub16 s.hl (s.regDD dd) s.f.c).2)

/-- `ADD IX,pp`: IX <- IX + pp; H, N, C written (spec/45_arith16.md R314). -/
def execAddIxPp (pp : RegPP) (s : State) : Result :=
  .next (s.addToPair s.ix (s.regPP pp) fun t v => { t with ix := v })

/-- `ADD IY,rr`: IY <- IY + rr; H, N, C written (spec/45_arith16.md R315). -/
def execAddIyRr (rr : RegRR) (s : State) : Result :=
  .next (s.addToPair s.iy (s.regRR rr) fun t v => { t with iy := v })

/-- `INC ss`: ss <- ss + 1, no flag (spec/45_arith16.md R316). -/
def execIncSs (dd : RegDD) (s : State) : Result := .next (s.setRegDD dd (s.regDD dd + 1))

/-- `INC IX`: IX <- IX + 1, no flag (spec/45_arith16.md R317). -/
def execIncIx (s : State) : Result := .next { s with ix := s.ix + 1 }

/-- `INC IY`: IY <- IY + 1, no flag (spec/45_arith16.md R318). -/
def execIncIy (s : State) : Result := .next { s with iy := s.iy + 1 }

/-- `DEC ss`: ss <- ss - 1, no flag (spec/45_arith16.md R319). -/
def execDecSs (dd : RegDD) (s : State) : Result := .next (s.setRegDD dd (s.regDD dd - 1))

/-- `DEC IX`: IX <- IX - 1, no flag (spec/45_arith16.md R320). -/
def execDecIx (s : State) : Result := .next { s with ix := s.ix - 1 }

/-- `DEC IY`: IY <- IY - 1, no flag (spec/45_arith16.md R321). -/
def execDecIy (s : State) : Result := .next { s with iy := s.iy - 1 }

end Sys2Proof.Machine
end

