-- ==== Sys2Proof/Machine/Arith8.lean ====
section
/-! DEFINITION. The meanings of the 8-bit arithmetic and logic group (R233 to R281) of spec/43_arith8.md.
Each starts from the state of spec/00_scope.md R9: PC is past the instruction, and R has advanced once for each of its
M1 cycles. None stops: no instruction of this processor can fault (spec/60_exceptions.md R450). -/

namespace Sys2Proof.Machine

/-- A <- the result, and its six flags (spec/43_arith8.md R233). -/
def State.accResult (s : State) (r : Byte × Flags) : State := State.setFlags { s with a := r.1 } fun _ => r.2

/-- The six flags of a result that is discarded: CP (spec/43_arith8.md R233, R269). -/
def State.compareAcc (s : State) (r : Byte × Flags) : State := s.setFlags fun _ => r.2

/-- INC and DEC of a byte in memory: read, write, then the flags, C kept (spec/43_arith8.md R275, R279). -/
def State.stepByte (s : State) (a : Word) (op : Byte → Byte × Flags) : State :=
  (s.modifyByte a fun v => (op v).1).setFlags fun _ => keepCarry s.f.toFlags (op (s.readByte a).1).2

/-- `ADD A,r`: A <- A + r (spec/43_arith8.md R234). -/
def execAddAR (r : R8) (s : State) : Result := .next (s.accResult (add8 s.a (s.reg8 r) false))

/-- `ADD A,n`: A <- A + n (spec/43_arith8.md R235). -/
def execAddAN (n : Byte) (s : State) : Result := .next (s.accResult (add8 s.a n false))

/-- `ADD A,(HL)`: A <- A + (HL) (spec/43_arith8.md R236). -/
def execAddAAtHl (s : State) : Result := .next ((s.readByte s.hl).2.accResult (add8 s.a (s.readByte s.hl).1 false))

/-- `ADD A,(IX+d)`: A <- A + (IX+d) (spec/43_arith8.md R237). -/
def execAddAAtIx (d : Byte) (s : State) : Result :=
  .next ((s.readByte (s.eaIX d)).2.accResult (add8 s.a (s.readByte (s.eaIX d)).1 false))

/-- `ADD A,(IY+d)`: A <- A + (IY+d) (spec/43_arith8.md R238). -/
def execAddAAtIy (d : Byte) (s : State) : Result :=
  .next ((s.readByte (s.eaIY d)).2.accResult (add8 s.a (s.readByte (s.eaIY d)).1 false))

/-- `ADC A,r`: A <- A + r + C (spec/43_arith8.md R239). -/
def execAdcAR (r : R8) (s : State) : Result := .next (s.accResult (add8 s.a (s.reg8 r) s.f.c))

/-- `ADC A,n`: A <- A + n + C (spec/43_arith8.md R240). -/
def execAdcAN (n : Byte) (s : State) : Result := .next (s.accResult (add8 s.a n s.f.c))

/-- `ADC A,(HL)`: A <- A + (HL) + C (spec/43_arith8.md R241). -/
def execAdcAAtHl (s : State) : Result := .next ((s.readByte s.hl).2.accResult (add8 s.a (s.readByte s.hl).1 s.f.c))

/-- `ADC A,(IX+d)`: A <- A + (IX+d) + C (spec/43_arith8.md R242). -/
def execAdcAAtIx (d : Byte) (s : State) : Result :=
  .next ((s.readByte (s.eaIX d)).2.accResult (add8 s.a (s.readByte (s.eaIX d)).1 s.f.c))

/-- `ADC A,(IY+d)`: A <- A + (IY+d) + C (spec/43_arith8.md R243). -/
def execAdcAAtIy (d : Byte) (s : State) : Result :=
  .next ((s.readByte (s.eaIY d)).2.accResult (add8 s.a (s.readByte (s.eaIY d)).1 s.f.c))

/-- `SUB r`: A <- A - r (spec/43_arith8.md R244). -/
def execSubR (r : R8) (s : State) : Result := .next (s.accResult (sub8 s.a (s.reg8 r) false))

/-- `SUB n`: A <- A - n (spec/43_arith8.md R245). -/
def execSubN (n : Byte) (s : State) : Result := .next (s.accResult (sub8 s.a n false))

/-- `SUB (HL)`: A <- A - (HL) (spec/43_arith8.md R246). -/
def execSubAtHl (s : State) : Result := .next ((s.readByte s.hl).2.accResult (sub8 s.a (s.readByte s.hl).1 false))

/-- `SUB (IX+d)`: A <- A - (IX+d) (spec/43_arith8.md R247). -/
def execSubAtIx (d : Byte) (s : State) : Result :=
  .next ((s.readByte (s.eaIX d)).2.accResult (sub8 s.a (s.readByte (s.eaIX d)).1 false))

/-- `SUB (IY+d)`: A <- A - (IY+d) (spec/43_arith8.md R248). -/
def execSubAtIy (d : Byte) (s : State) : Result :=
  .next ((s.readByte (s.eaIY d)).2.accResult (sub8 s.a (s.readByte (s.eaIY d)).1 false))

/-- `SBC A,r`: A <- A - r - C (spec/43_arith8.md R249). -/
def execSbcAR (r : R8) (s : State) : Result := .next (s.accResult (sub8 s.a (s.reg8 r) s.f.c))

/-- `SBC A,n`: A <- A - n - C (spec/43_arith8.md R250). -/
def execSbcAN (n : Byte) (s : State) : Result := .next (s.accResult (sub8 s.a n s.f.c))

/-- `SBC A,(HL)`: A <- A - (HL) - C (spec/43_arith8.md R251). -/
def execSbcAAtHl (s : State) : Result := .next ((s.readByte s.hl).2.accResult (sub8 s.a (s.readByte s.hl).1 s.f.c))

/-- `SBC A,(IX+d)`: A <- A - (IX+d) - C (spec/43_arith8.md R252). -/
def execSbcAAtIx (d : Byte) (s : State) : Result :=
  .next ((s.readByte (s.eaIX d)).2.accResult (sub8 s.a (s.readByte (s.eaIX d)).1 s.f.c))

/-- `SBC A,(IY+d)`: A <- A - (IY+d) - C (spec/43_arith8.md R253). -/
def execSbcAAtIy (d : Byte) (s : State) : Result :=
  .next ((s.readByte (s.eaIY d)).2.accResult (sub8 s.a (s.readByte (s.eaIY d)).1 s.f.c))

/-- `AND r`: A <- A and r (spec/43_arith8.md R254). -/
def execAndR (r : R8) (s : State) : Result := .next (s.accResult (and8 s.a (s.reg8 r)))

/-- `AND n`: A <- A and n (spec/43_arith8.md R255). -/
def execAndN (n : Byte) (s : State) : Result := .next (s.accResult (and8 s.a n))

/-- `AND (HL)`: A <- A and (HL) (spec/43_arith8.md R256). -/
def execAndAtHl (s : State) : Result := .next ((s.readByte s.hl).2.accResult (and8 s.a (s.readByte s.hl).1))

/-- `AND (IX+d)`: A <- A and (IX+d) (spec/43_arith8.md R257). -/
def execAndAtIx (d : Byte) (s : State) : Result :=
  .next ((s.readByte (s.eaIX d)).2.accResult (and8 s.a (s.readByte (s.eaIX d)).1))

/-- `AND (IY+d)`: A <- A and (IY+d) (spec/43_arith8.md R258). -/
def execAndAtIy (d : Byte) (s : State) : Result :=
  .next ((s.readByte (s.eaIY d)).2.accResult (and8 s.a (s.readByte (s.eaIY d)).1))

/-- `XOR r`: A <- A xor r (spec/43_arith8.md R259). -/
def execXorR (r : R8) (s : State) : Result := .next (s.accResult (xor8 s.a (s.reg8 r)))

/-- `XOR n`: A <- A xor n (spec/43_arith8.md R260). -/
def execXorN (n : Byte) (s : State) : Result := .next (s.accResult (xor8 s.a n))

/-- `XOR (HL)`: A <- A xor (HL) (spec/43_arith8.md R261). -/
def execXorAtHl (s : State) : Result := .next ((s.readByte s.hl).2.accResult (xor8 s.a (s.readByte s.hl).1))

/-- `XOR (IX+d)`: A <- A xor (IX+d) (spec/43_arith8.md R262). -/
def execXorAtIx (d : Byte) (s : State) : Result :=
  .next ((s.readByte (s.eaIX d)).2.accResult (xor8 s.a (s.readByte (s.eaIX d)).1))

/-- `XOR (IY+d)`: A <- A xor (IY+d) (spec/43_arith8.md R263). -/
def execXorAtIy (d : Byte) (s : State) : Result :=
  .next ((s.readByte (s.eaIY d)).2.accResult (xor8 s.a (s.readByte (s.eaIY d)).1))

/-- `OR r`: A <- A or r (spec/43_arith8.md R264). -/
def execOrR (r : R8) (s : State) : Result := .next (s.accResult (or8 s.a (s.reg8 r)))

/-- `OR n`: A <- A or n (spec/43_arith8.md R265). -/
def execOrN (n : Byte) (s : State) : Result := .next (s.accResult (or8 s.a n))

/-- `OR (HL)`: A <- A or (HL) (spec/43_arith8.md R266). -/
def execOrAtHl (s : State) : Result := .next ((s.readByte s.hl).2.accResult (or8 s.a (s.readByte s.hl).1))

/-- `OR (IX+d)`: A <- A or (IX+d) (spec/43_arith8.md R267). -/
def execOrAtIx (d : Byte) (s : State) : Result :=
  .next ((s.readByte (s.eaIX d)).2.accResult (or8 s.a (s.readByte (s.eaIX d)).1))

/-- `OR (IY+d)`: A <- A or (IY+d) (spec/43_arith8.md R268). -/
def execOrAtIy (d : Byte) (s : State) : Result :=
  .next ((s.readByte (s.eaIY d)).2.accResult (or8 s.a (s.readByte (s.eaIY d)).1))

/-- `CP r`: A - r, for the flags alone (spec/43_arith8.md R269). -/
def execCpR (r : R8) (s : State) : Result := .next (s.compareAcc (sub8 s.a (s.reg8 r) false))

/-- `CP n`: A - n, for the flags alone (spec/43_arith8.md R270). -/
def execCpN (n : Byte) (s : State) : Result := .next (s.compareAcc (sub8 s.a n false))

/-- `CP (HL)`: A - (HL), for the flags alone (spec/43_arith8.md R271). -/
def execCpAtHl (s : State) : Result := .next ((s.readByte s.hl).2.compareAcc (sub8 s.a (s.readByte s.hl).1 false))

/-- `CP (IX+d)`: A - (IX+d), for the flags alone (spec/43_arith8.md R272). -/
def execCpAtIx (d : Byte) (s : State) : Result :=
  .next ((s.readByte (s.eaIX d)).2.compareAcc (sub8 s.a (s.readByte (s.eaIX d)).1 false))

/-- `CP (IY+d)`: A - (IY+d), for the flags alone (spec/43_arith8.md R273). -/
def execCpAtIy (d : Byte) (s : State) : Result :=
  .next ((s.readByte (s.eaIY d)).2.compareAcc (sub8 s.a (s.readByte (s.eaIY d)).1 false))

/-- `INC r`: r <- r + 1, C kept (spec/43_arith8.md R274). -/
def execIncR (r : R8) (s : State) : Result :=
  .next (State.setFlags (s.setReg8 r (add8 (s.reg8 r) 1 false).1) fun _ => keepCarry s.f.toFlags (add8 (s.reg8 r) 1 false).2)

/-- `INC (HL)`: (HL) <- (HL) + 1, C kept (spec/43_arith8.md R275). -/
def execIncAtHl (s : State) : Result := .next (s.stepByte s.hl (fun v => add8 v 1 false))

/-- `INC (IX+d)`: (IX+d) <- (IX+d) + 1, C kept (spec/43_arith8.md R276). -/
def execIncAtIx (d : Byte) (s : State) : Result := .next (s.stepByte (s.eaIX d) (fun v => add8 v 1 false))

/-- `INC (IY+d)`: (IY+d) <- (IY+d) + 1, C kept (spec/43_arith8.md R277). -/
def execIncAtIy (d : Byte) (s : State) : Result := .next (s.stepByte (s.eaIY d) (fun v => add8 v 1 false))

/-- `DEC r`: r <- r - 1, C kept (spec/43_arith8.md R278). -/
def execDecR (r : R8) (s : State) : Result :=
  .next (State.setFlags (s.setReg8 r (sub8 (s.reg8 r) 1 false).1) fun _ => keepCarry s.f.toFlags (sub8 (s.reg8 r) 1 false).2)

/-- `DEC (HL)`: (HL) <- (HL) - 1, C kept (spec/43_arith8.md R279). -/
def execDecAtHl (s : State) : Result := .next (s.stepByte s.hl (fun v => sub8 v 1 false))

/-- `DEC (IX+d)`: (IX+d) <- (IX+d) - 1, C kept (spec/43_arith8.md R280). -/
def execDecAtIx (d : Byte) (s : State) : Result := .next (s.stepByte (s.eaIX d) (fun v => sub8 v 1 false))

/-- `DEC (IY+d)`: (IY+d) <- (IY+d) - 1, C kept (spec/43_arith8.md R281). -/
def execDecAtIy (d : Byte) (s : State) : Result := .next (s.stepByte (s.eaIY d) (fun v => sub8 v 1 false))

end Sys2Proof.Machine
end

