-- ==== Sys2Proof/Machine/Bit.lean ====
section
/-! DEFINITION. The meanings of the bit set, reset and test group (R380 to R391) of spec/47_bit.md.
Each starts from the state of spec/00_scope.md R9: PC is past the instruction, and R has advanced once for each of its
M1 cycles. None stops: no instruction of this processor can fault (spec/60_exceptions.md R450). -/

namespace Sys2Proof.Machine

/-- `BIT b,r`: Z <- not r[b]; S and P/V open (spec/47_bit.md R380). -/
def execBitBR (b : Nat) (r : R8) (s : State) : Result :=
  .next (s.setFlags (bitFlags s.f.toFlags ((s.reg8 r).getLsbD b)))

/-- `BIT b,(HL)`: Z <- not bit b of (HL), which is read and not written; S and P/V open (spec/47_bit.md R381). -/
def execBitBAtHl (b : Nat) (s : State) : Result :=
  .next ((s.readByte s.hl).2.setFlags (bitFlags s.f.toFlags ((s.readByte s.hl).1.getLsbD b)))

/-- `BIT b,(IX+d)`: Z <- not bit b of (IX+d), which is read and not written; S and P/V open (spec/47_bit.md R382). -/
def execBitBAtIx (b : Nat) (d : Byte) (s : State) : Result :=
  .next ((s.readByte (s.eaIX d)).2.setFlags (bitFlags s.f.toFlags ((s.readByte (s.eaIX d)).1.getLsbD b)))

/-- `BIT b,(IY+d)`: Z <- not bit b of (IY+d), which is read and not written; S and P/V open (spec/47_bit.md R383). -/
def execBitBAtIy (b : Nat) (d : Byte) (s : State) : Result :=
  .next ((s.readByte (s.eaIY d)).2.setFlags (bitFlags s.f.toFlags ((s.readByte (s.eaIY d)).1.getLsbD b)))

/-- `SET b,r`: r[b] <- 1 (spec/47_bit.md R384). -/
def execSetBR (b : Nat) (r : R8) (s : State) : Result := .next (s.setReg8 r (setBit b (s.reg8 r)))

/-- `SET b,(HL)`: bit b of (HL) <- 1 (spec/47_bit.md R385). -/
def execSetBAtHl (b : Nat) (s : State) : Result := .next (s.modifyByte s.hl (setBit b))

/-- `SET b,(IX+d)`: bit b of (IX+d) <- 1 (spec/47_bit.md R386). -/
def execSetBAtIx (b : Nat) (d : Byte) (s : State) : Result := .next (s.modifyByte (s.eaIX d) (setBit b))

/-- `SET b,(IY+d)`: bit b of (IY+d) <- 1 (spec/47_bit.md R387). -/
def execSetBAtIy (b : Nat) (d : Byte) (s : State) : Result := .next (s.modifyByte (s.eaIY d) (setBit b))

/-- `RES b,r`: r[b] <- 0 (spec/47_bit.md R388). -/
def execResBR (b : Nat) (r : R8) (s : State) : Result := .next (s.setReg8 r (resBit b (s.reg8 r)))

/-- `RES b,(HL)`: bit b of (HL) <- 0 (spec/47_bit.md R389). -/
def execResBAtHl (b : Nat) (s : State) : Result := .next (s.modifyByte s.hl (resBit b))

/-- `RES b,(IX+d)`: bit b of (IX+d) <- 0 (spec/47_bit.md R390). -/
def execResBAtIx (b : Nat) (d : Byte) (s : State) : Result := .next (s.modifyByte (s.eaIX d) (resBit b))

/-- `RES b,(IY+d)`: bit b of (IY+d) <- 0 (spec/47_bit.md R391). -/
def execResBAtIy (b : Nat) (d : Byte) (s : State) : Result := .next (s.modifyByte (s.eaIY d) (resBit b))

end Sys2Proof.Machine
end

