-- ==== Sys2Proof/Machine/ExchangeBlock.lean ====
section
/-! DEFINITION. The meanings of the exchange, block transfer and search group (R210 to R223) of spec/42_exchange_block.md.
Each starts from the state of spec/00_scope.md R9: PC is past the instruction, and R has advanced once for each of its
M1 cycles. None stops: no instruction of this processor can fault (spec/60_exceptions.md R450). -/

namespace Sys2Proof.Machine

/-- The four bus cycles of EX (SP): read SP, read SP + 1, write the high byte of v at SP + 1, write its low byte at SP;
the answer is the word read (spec/42_exchange_block.md R213). -/
def State.exchangeTop (s : State) (v : Word) : Word × State :=
  let w := s.readWord s.sp
  (w.1, (w.2.writeByte (s.sp + 1) (hiByte v)).writeByte s.sp (loByte v))

/-- A repeating instruction goes back to its own first byte unless it is done (spec/60_exceptions.md R460). -/
def State.repeatUnless (s : State) (done : Bool) : State := if done then s else { s with pc := s.pc - 2 }

/-- LDI with step 1 and LDD with step -1 (spec/42_exchange_block.md R216, R218). -/
def State.blockTransfer (s : State) (step : Word) : State :=
  let v := s.readByte s.hl
  let t := v.2.writeByte s.de v.1
  let t := ((t.setHL (s.hl + step)).setDE (s.de + step)).setBC (s.bc - 1)
  t.setFlags fun _ => transferFlags s.f.toFlags (s.bc - 1)

/-- CPI with step 1 and CPD with step -1: A is not written (spec/42_exchange_block.md R220, R222). -/
def State.blockSearch (s : State) (step : Word) : State :=
  let v := s.readByte s.hl
  let t := (v.2.setHL (s.hl + step)).setBC (s.bc - 1)
  t.setFlags fun _ => searchFlags s.f.toFlags (sub8 s.a v.1 false).2 (s.bc - 1)

/-- `EX DE,HL`: DE and HL change places (spec/42_exchange_block.md R210). -/
def execExDeHl (s : State) : Result := .next { s with d := s.h, e := s.l, h := s.d, l := s.e }

/-- `EX AF,AF'`: AF and AF' change places, all eight bits of F (spec/42_exchange_block.md R211). -/
def execExAf (s : State) : Result := .next { s with a := s.aAlt, f := s.fAlt, aAlt := s.a, fAlt := s.f }

/-- `EXX`: BC, DE, HL and BC', DE', HL' change places (spec/42_exchange_block.md R212). -/
def execExx (s : State) : Result :=
  .next { s with
    b := s.bAlt, c := s.cAlt, d := s.dAlt, e := s.eAlt, h := s.hAlt, l := s.lAlt,
    bAlt := s.b, cAlt := s.c, dAlt := s.d, eAlt := s.e, hAlt := s.h, lAlt := s.l }

/-- `EX (SP),HL`: HL and the word on top of the stack change places (spec/42_exchange_block.md R213). -/
def execExSpHl (s : State) : Result := .next ((s.exchangeTop s.hl).2.setHL (s.exchangeTop s.hl).1)

/-- `EX (SP),IX`: IX and the word on top of the stack change places (spec/42_exchange_block.md R214). -/
def execExSpIx (s : State) : Result := .next { (s.exchangeTop s.ix).2 with ix := (s.exchangeTop s.ix).1 }

/-- `EX (SP),IY`: IY and the word on top of the stack change places (spec/42_exchange_block.md R215). -/
def execExSpIy (s : State) : Result := .next { (s.exchangeTop s.iy).2 with iy := (s.exchangeTop s.iy).1 }

/-- `LDI`: copy a byte from (HL) to (DE), both pointers up, BC down (spec/42_exchange_block.md R216). -/
def execLdi (s : State) : Result := .next (s.blockTransfer 1)

/-- `LDIR`: LDI, repeated until BC is 0 (spec/42_exchange_block.md R217). -/
def execLdir (s : State) : Result := .next ((s.blockTransfer 1).repeatUnless ((s.blockTransfer 1).bc == 0))

/-- `LDD`: copy a byte from (HL) to (DE), both pointers down, BC down (spec/42_exchange_block.md R218). -/
def execLdd (s : State) : Result := .next (s.blockTransfer (-1))

/-- `LDDR`: LDD, repeated until BC is 0 (spec/42_exchange_block.md R219). -/
def execLddr (s : State) : Result := .next ((s.blockTransfer (-1)).repeatUnless ((s.blockTransfer (-1)).bc == 0))

/-- `CPI`: compare A with (HL), HL up, BC down (spec/42_exchange_block.md R220). -/
def execCpi (s : State) : Result := .next (s.blockSearch 1)

/-- `CPIR`: CPI, repeated until BC is 0 or A = (HL) (spec/42_exchange_block.md R221). -/
def execCpir (s : State) : Result :=
  .next ((s.blockSearch 1).repeatUnless ((s.blockSearch 1).bc == 0 || (s.blockSearch 1).f.z))

/-- `CPD`: compare A with (HL), HL down, BC down (spec/42_exchange_block.md R222). -/
def execCpd (s : State) : Result := .next (s.blockSearch (-1))

/-- `CPDR`: CPD, repeated until BC is 0 or A = (HL) (spec/42_exchange_block.md R223). -/
def execCpdr (s : State) : Result :=
  .next ((s.blockSearch (-1)).repeatUnless ((s.blockSearch (-1)).bc == 0 || (s.blockSearch (-1)).f.z))

end Sys2Proof.Machine
end

