-- ==== Sys2Proof/Machine/GeneralControl.lean ====
section
/-! DEFINITION. The meanings of the general-purpose arithmetic and CPU control group (R290 to R301) of spec/44_general_cpu_control.md.
Each starts from the state of spec/00_scope.md R9: PC is past the instruction, and R has advanced once for each of its
M1 cycles. None stops: no instruction of this processor can fault (spec/60_exceptions.md R450). -/

namespace Sys2Proof.Machine

/-- The clock state of a halt, by MS1 and MS2 (spec/60_exceptions.md Table R466). -/
def haltClock (ms1 ms2 : Bool) : ClockState :=
  match ms1, ms2 with
  | true, true => .running
  | false, false => .idle1
  | false, true => .idle2
  | true, false => .stopped

/-- `DAA`: decimal adjustment of A; H is open (spec/44_general_cpu_control.md R290). -/
def execDaa (s : State) : Result :=
  .next (State.setFlags { s with a := (daa s.a s.f.toFlags).1 } (daaFlags s.f.toFlags (daa s.a s.f.toFlags)))

/-- `CPL`: A <- not A (spec/44_general_cpu_control.md R291). -/
def execCpl (s : State) : Result :=
  .next (State.setFlags { s with a := ~~~s.a } fun _ => { s.f.toFlags with h := true, n := true })

/-- `NEG`: A <- 0 - A (spec/44_general_cpu_control.md R292). -/
def execNeg (s : State) : Result := .next (s.accResult (sub8 0 s.a false))

/-- `CCF`: C inverted, H <- the old C (spec/44_general_cpu_control.md R293). -/
def execCcf (s : State) : Result :=
  .next (s.setFlags fun _ => { s.f.toFlags with h := s.f.c, n := false, c := !s.f.c })

/-- `SCF`: C <- 1 (spec/44_general_cpu_control.md R294). -/
def execScf (s : State) : Result := .next (s.setFlags fun _ => { s.f.toFlags with h := false, n := false, c := true })

/-- `NOP`: nothing beyond the fetch (spec/44_general_cpu_control.md R295). -/
def execNop (s : State) : Result := .next s

/-- `HALT`: the halt state, in the mode MS1 and MS2 select now (spec/44_general_cpu_control.md R296). -/
def execHalt (s : State) : Result := .next { s with halted := true, clockState := haltClock s.pins.ms1 s.pins.ms2 }

/-- `DI`: IFF1, IFF2 <- 0 (spec/44_general_cpu_control.md R297). -/
def execDi (s : State) : Result := .next { s with iff1 := false, iff2 := false }

/-- `EI`: IFF1, IFF2 <- 1; INT is held off at this instruction's end (spec/44_general_cpu_control.md R298). -/
def execEi (s : State) : Result := .next { s with iff1 := true, iff2 := true, eiShadow := true }

/-- `IM 0`: IM <- 0 (spec/44_general_cpu_control.md R299). -/
def execIm0 (s : State) : Result := .next { s with im := .mode0 }

/-- `IM 1`: IM <- 1 (spec/44_general_cpu_control.md R300). -/
def execIm1 (s : State) : Result := .next { s with im := .mode1 }

/-- `IM 2`: IM <- 2 (spec/44_general_cpu_control.md R301). -/
def execIm2 (s : State) : Result := .next { s with im := .mode2 }

end Sys2Proof.Machine
end

