-- ==== Sys2Proof/Machine/InOut.lean ====
section
/-! DEFINITION. The meanings of the input and output group (R430 to R441) of spec/49_io.md.
Each starts from the state of spec/00_scope.md R9: PC is past the instruction, and R has advanced once for each of its
M1 cycles. None stops: no instruction of this processor can fault (spec/60_exceptions.md R450). -/

namespace Sys2Proof.Machine

/-- INI with step 1 and IND with step -1: the port address carries B before the decrement (spec/49_io.md R432). -/
def State.blockInput (s : State) (step : Word) : State :=
  let v := s.ioRead s.bc
  let t := v.2.writeByte s.hl v.1
  let t := State.setHL { t with b := s.b - 1 } (s.hl + step)
  t.setFlags (blockIoFlags (s.b - 1))

/-- OUTI with step 1 and OUTD with step -1: the port address carries B after the decrement (spec/49_io.md R438). -/
def State.blockOutput (s : State) (step : Word) : State :=
  let v := s.readByte s.hl
  let t := State.ioWrite { v.2 with b := s.b - 1 } (joinBytes (s.b - 1) s.c) v.1
  let t := t.setHL (s.hl + step)
  t.setFlags (blockIoFlags (s.b - 1))

/-- `IN A,(n)`: A <- IORead(A : n), no flag (spec/49_io.md R430). -/
def execInAN (n : Byte) (s : State) : Result :=
  .next { (s.ioRead (joinBytes s.a n)).2 with a := (s.ioRead (joinBytes s.a n)).1 }

/-- `IN r,(C)`: r <- IORead(B : C), the port from the old B and C (spec/49_io.md R431). -/
def execInRC (r : R8) (s : State) : Result :=
  .next (State.setFlags ((s.ioRead s.bc).2.setReg8 r (s.ioRead s.bc).1) fun _ =>
    loadedFlags s.f.toFlags (s.ioRead s.bc).1 (parity8 (s.ioRead s.bc).1))

/-- `INI`: (HL) <- IORead(B : C); B down, HL up (spec/49_io.md R432). -/
def execIni (s : State) : Result := .next (s.blockInput 1)

/-- `INIR`: INI, repeated until B is 0 (spec/49_io.md R433). -/
def execInir (s : State) : Result := .next ((s.blockInput 1).repeatUnless ((s.blockInput 1).b == 0))

/-- `IND`: (HL) <- IORead(B : C); B down, HL down (spec/49_io.md R434). -/
def execInd (s : State) : Result := .next (s.blockInput (-1))

/-- `INDR`: IND, repeated until B is 0 (spec/49_io.md R435). -/
def execIndr (s : State) : Result := .next ((s.blockInput (-1)).repeatUnless ((s.blockInput (-1)).b == 0))

/-- `OUT (n),A`: IOWrite(A : n, A) (spec/49_io.md R436). -/
def execOutNA (n : Byte) (s : State) : Result := .next (s.ioWrite (joinBytes s.a n) s.a)

/-- `OUT (C),r`: IOWrite(B : C, r) (spec/49_io.md R437). -/
def execOutCR (r : R8) (s : State) : Result := .next (s.ioWrite s.bc (s.reg8 r))

/-- `OUTI`: B down; IOWrite(B : C, (HL)); HL up (spec/49_io.md R438). -/
def execOuti (s : State) : Result := .next (s.blockOutput 1)

/-- `OTIR`: OUTI, repeated until B is 0 (spec/49_io.md R439). -/
def execOtir (s : State) : Result := .next ((s.blockOutput 1).repeatUnless ((s.blockOutput 1).b == 0))

/-- `OUTD`: B down; IOWrite(B : C, (HL)); HL down (spec/49_io.md R440). -/
def execOutd (s : State) : Result := .next (s.blockOutput (-1))

/-- `OTDR`: OUTD, repeated until B is 0 (spec/49_io.md R441). -/
def execOtdr (s : State) : Result := .next ((s.blockOutput (-1)).repeatUnless ((s.blockOutput (-1)).b == 0))

end Sys2Proof.Machine
end

