-- ==== Sys2Proof/Machine/JumpCallReturn.lean ====
section
/-! DEFINITION. The meanings of the jump, call and return group (R400 to R417) of spec/48_jump_call_return.md.
Each starts from the state of spec/00_scope.md R9: PC is past the instruction, and R has advanced once for each of its
M1 cycles. None stops: no instruction of this processor can fault (spec/60_exceptions.md R450). -/

namespace Sys2Proof.Machine

/-- `JP nn`: PC <- nn (spec/48_jump_call_return.md R400). -/
def execJpNn (nn : Word) (s : State) : Result := .next { s with pc := nn }

/-- `JP cc,nn`: if cc then PC <- nn (spec/48_jump_call_return.md R401). -/
def execJpCcNn (cc : Cond) (nn : Word) (s : State) : Result :=
  .next (if condHolds s.f.toFlags cc then { s with pc := nn } else s)

/-- `JR e`: PC <- PC + e (spec/48_jump_call_return.md R402). -/
def execJrE (e : Byte) (s : State) : Result := .next (s.jumpRel e)

/-- `JR C,e`: if C then PC <- PC + e (spec/48_jump_call_return.md R403). -/
def execJrCE (e : Byte) (s : State) : Result := .next (if s.f.c then s.jumpRel e else s)

/-- `JR NC,e`: if NC then PC <- PC + e (spec/48_jump_call_return.md R404). -/
def execJrNcE (e : Byte) (s : State) : Result := .next (if !s.f.c then s.jumpRel e else s)

/-- `JR Z,e`: if Z then PC <- PC + e (spec/48_jump_call_return.md R405). -/
def execJrZE (e : Byte) (s : State) : Result := .next (if s.f.z then s.jumpRel e else s)

/-- `JR NZ,e`: if NZ then PC <- PC + e (spec/48_jump_call_return.md R406). -/
def execJrNzE (e : Byte) (s : State) : Result := .next (if !s.f.z then s.jumpRel e else s)

/-- `JP (HL)`: PC <- HL; memory is not read (spec/48_jump_call_return.md R407). -/
def execJpHl (s : State) : Result := .next { s with pc := s.hl }

/-- `JP (IX)`: PC <- IX; memory is not read (spec/48_jump_call_return.md R408). -/
def execJpIx (s : State) : Result := .next { s with pc := s.ix }

/-- `JP (IY)`: PC <- IY; memory is not read (spec/48_jump_call_return.md R409). -/
def execJpIy (s : State) : Result := .next { s with pc := s.iy }

/-- `DJNZ e`: B <- B - 1; if B != 0 then PC <- PC + e; no flag (spec/48_jump_call_return.md R410). -/
def execDjnzE (e : Byte) (s : State) : Result :=
  .next (if s.b - 1 = 0 then { s with b := s.b - 1 } else State.jumpRel { s with b := s.b - 1 } e)

/-- `CALL nn`: Push16(PC); PC <- nn (spec/48_jump_call_return.md R411). -/
def execCallNn (nn : Word) (s : State) : Result := .next (s.callTo nn)

/-- `CALL cc,nn`: if cc then Push16(PC); PC <- nn (spec/48_jump_call_return.md R412). -/
def execCallCcNn (cc : Cond) (nn : Word) (s : State) : Result :=
  .next (if condHolds s.f.toFlags cc then s.callTo nn else s)

/-- `RET`: PC <- Pop16() (spec/48_jump_call_return.md R413). -/
def execRet (s : State) : Result := .next s.returnPop

/-- `RET cc`: if cc then PC <- Pop16() (spec/48_jump_call_return.md R414). -/
def execRetCc (cc : Cond) (s : State) : Result := .next (if condHolds s.f.toFlags cc then s.returnPop else s)

/-- `RETI`: PC <- Pop16(); IFF1 open where it differs from IFF2 (spec/48_jump_call_return.md R415). -/
def execReti (s : State) : Result := .next s.returnFromInt

/-- `RETN`: PC <- Pop16(); IFF1 <- IFF2 (spec/48_jump_call_return.md R416). -/
def execRetn (s : State) : Result := .next s.returnFromNmi

/-- `RST p`: Push16(PC); PC <- p (spec/48_jump_call_return.md R417). -/
def execRstP (p : Byte) (s : State) : Result := .next (s.callTo (zext16 p))

end Sys2Proof.Machine
end

