-- ==== Sys2Proof/Machine/Load16.lean ====
section
/-! DEFINITION. The meanings of the 16-bit load group (R180 to R199) of spec/41_load16.md.
Each starts from the state of spec/00_scope.md R9: PC is past the instruction, and R has advanced once for each of its
M1 cycles. None stops: no instruction of this processor can fault (spec/60_exceptions.md R450). -/

namespace Sys2Proof.Machine

/-- `LD dd,nn`: dd <- nn (spec/41_load16.md R180). -/
def execLdDdNn (dd : RegDD) (nn : Word) (s : State) : Result := .next (s.setRegDD dd nn)

/-- `LD IX,nn`: IX <- nn (spec/41_load16.md R181). -/
def execLdIxNn (nn : Word) (s : State) : Result := .next { s with ix := nn }

/-- `LD IY,nn`: IY <- nn (spec/41_load16.md R182). -/
def execLdIyNn (nn : Word) (s : State) : Result := .next { s with iy := nn }

/-- `LD HL,(nn)`: L <- MemRead(nn); H <- MemRead(nn + 1) (spec/41_load16.md R183). -/
def execLdHlAtNn (nn : Word) (s : State) : Result := .next ((s.readWord nn).2.setHL (s.readWord nn).1)

/-- `LD dd,(nn)`: dd <- the word at nn (spec/41_load16.md R184). -/
def execLdDdAtNn (dd : RegDD) (nn : Word) (s : State) : Result :=
  .next ((s.readWord nn).2.setRegDD dd (s.readWord nn).1)

/-- `LD IX,(nn)`: IX <- the word at nn (spec/41_load16.md R185). -/
def execLdIxAtNn (nn : Word) (s : State) : Result := .next { (s.readWord nn).2 with ix := (s.readWord nn).1 }

/-- `LD IY,(nn)`: IY <- the word at nn (spec/41_load16.md R186). -/
def execLdIyAtNn (nn : Word) (s : State) : Result := .next { (s.readWord nn).2 with iy := (s.readWord nn).1 }

/-- `LD (nn),HL`: MemWrite(nn, L); MemWrite(nn + 1, H) (spec/41_load16.md R187). -/
def execLdAtNnHl (nn : Word) (s : State) : Result := .next (s.writeWord nn s.hl)

/-- `LD (nn),dd`: the word at nn <- dd (spec/41_load16.md R188). -/
def execLdAtNnDd (nn : Word) (dd : RegDD) (s : State) : Result := .next (s.writeWord nn (s.regDD dd))

/-- `LD (nn),IX`: the word at nn <- IX (spec/41_load16.md R189). -/
def execLdAtNnIx (nn : Word) (s : State) : Result := .next (s.writeWord nn s.ix)

/-- `LD (nn),IY`: the word at nn <- IY (spec/41_load16.md R190). -/
def execLdAtNnIy (nn : Word) (s : State) : Result := .next (s.writeWord nn s.iy)

/-- `LD SP,HL`: SP <- HL (spec/41_load16.md R191). -/
def execLdSpHl (s : State) : Result := .next { s with sp := s.hl }

/-- `LD SP,IX`: SP <- IX (spec/41_load16.md R192). -/
def execLdSpIx (s : State) : Result := .next { s with sp := s.ix }

/-- `LD SP,IY`: SP <- IY (spec/41_load16.md R193). -/
def execLdSpIy (s : State) : Result := .next { s with sp := s.iy }

/-- `PUSH qq`: Push16(qq) (spec/41_load16.md R194). -/
def execPushQq (qq : RegQQ) (s : State) : Result := .next (s.push16 (s.regQQ qq))

/-- `PUSH IX`: Push16(IX) (spec/41_load16.md R195). -/
def execPushIx (s : State) : Result := .next (s.push16 s.ix)

/-- `PUSH IY`: Push16(IY) (spec/41_load16.md R196). -/
def execPushIy (s : State) : Result := .next (s.push16 s.iy)

/-- `POP qq`: qq <- Pop16(); POP AF loads all eight bits of F (spec/41_load16.md R197). -/
def execPopQq (qq : RegQQ) (s : State) : Result := .next (s.pop16.2.setRegQQ qq s.pop16.1)

/-- `POP IX`: IX <- Pop16() (spec/41_load16.md R198). -/
def execPopIx (s : State) : Result := .next { s.pop16.2 with ix := s.pop16.1 }

/-- `POP IY`: IY <- Pop16() (spec/41_load16.md R199). -/
def execPopIy (s : State) : Result := .next { s.pop16.2 with iy := s.pop16.1 }

end Sys2Proof.Machine
end

