-- ==== Sys2Proof/Machine/Load8.lean ====
section
/-! DEFINITION. The meanings of the 8-bit load group (R150 to R170) of spec/40_load8.md.
Each starts from the state of spec/00_scope.md R9: PC is past the instruction, and R has advanced once for each of its
M1 cycles. None stops: no instruction of this processor can fault (spec/60_exceptions.md R450). -/

namespace Sys2Proof.Machine

/-- `LD r,r'`: r <- r' (spec/40_load8.md R150). -/
def execLdRR (rd : R8) (rs : R8) (s : State) : Result := .next (s.setReg8 rd (s.reg8 rs))

/-- `LD r,n`: r <- n (spec/40_load8.md R151). -/
def execLdRN (r : R8) (n : Byte) (s : State) : Result := .next (s.setReg8 r n)

/-- `LD r,(HL)`: r <- MemRead(HL): the address is formed before the register is overwritten (spec/40_load8.md R152). -/
def execLdRAtHl (r : R8) (s : State) : Result := .next ((s.readByte s.hl).2.setReg8 r (s.readByte s.hl).1)

/-- `LD r,(IX+d)`: r <- MemRead(IX + d) (spec/40_load8.md R153). -/
def execLdRAtIx (r : R8) (d : Byte) (s : State) : Result :=
  .next ((s.readByte (s.eaIX d)).2.setReg8 r (s.readByte (s.eaIX d)).1)

/-- `LD r,(IY+d)`: r <- MemRead(IY + d) (spec/40_load8.md R154). -/
def execLdRAtIy (r : R8) (d : Byte) (s : State) : Result :=
  .next ((s.readByte (s.eaIY d)).2.setReg8 r (s.readByte (s.eaIY d)).1)

/-- `LD (HL),r`: MemWrite(HL, r) (spec/40_load8.md R155). -/
def execLdAtHlR (r : R8) (s : State) : Result := .next (s.writeByte s.hl (s.reg8 r))

/-- `LD (IX+d),r`: MemWrite(IX + d, r) (spec/40_load8.md R156). -/
def execLdAtIxR (d : Byte) (r : R8) (s : State) : Result := .next (s.writeByte (s.eaIX d) (s.reg8 r))

/-- `LD (IY+d),r`: MemWrite(IY + d, r) (spec/40_load8.md R157). -/
def execLdAtIyR (d : Byte) (r : R8) (s : State) : Result := .next (s.writeByte (s.eaIY d) (s.reg8 r))

/-- `LD (HL),n`: MemWrite(HL, n) (spec/40_load8.md R158). -/
def execLdAtHlN (n : Byte) (s : State) : Result := .next (s.writeByte s.hl n)

/-- `LD (IX+d),n`: MemWrite(IX + d, n) (spec/40_load8.md R159). -/
def execLdAtIxN (d : Byte) (n : Byte) (s : State) : Result := .next (s.writeByte (s.eaIX d) n)

/-- `LD (IY+d),n`: MemWrite(IY + d, n) (spec/40_load8.md R160). -/
def execLdAtIyN (d : Byte) (n : Byte) (s : State) : Result := .next (s.writeByte (s.eaIY d) n)

/-- `LD A,(BC)`: A <- MemRead(BC) (spec/40_load8.md R161). -/
def execLdAAtBc (s : State) : Result := .next { (s.readByte s.bc).2 with a := (s.readByte s.bc).1 }

/-- `LD A,(DE)`: A <- MemRead(DE) (spec/40_load8.md R162). -/
def execLdAAtDe (s : State) : Result := .next { (s.readByte s.de).2 with a := (s.readByte s.de).1 }

/-- `LD A,(nn)`: A <- MemRead(nn) (spec/40_load8.md R163). -/
def execLdAAtNn (nn : Word) (s : State) : Result := .next { (s.readByte nn).2 with a := (s.readByte nn).1 }

/-- `LD (BC),A`: MemWrite(BC, A) (spec/40_load8.md R164). -/
def execLdAtBcA (s : State) : Result := .next (s.writeByte s.bc s.a)

/-- `LD (DE),A`: MemWrite(DE, A) (spec/40_load8.md R165). -/
def execLdAtDeA (s : State) : Result := .next (s.writeByte s.de s.a)

/-- `LD (nn),A`: MemWrite(nn, A) (spec/40_load8.md R166). -/
def execLdAtNnA (nn : Word) (s : State) : Result := .next (s.writeByte nn s.a)

/-- `LD A,I`: A <- I; P/V <- IFF2 (spec/40_load8.md R167). -/
def execLdAI (s : State) : Result :=
  .next (State.setFlags { s with a := s.i } fun _ => loadedFlags s.f.toFlags s.i s.iff2)

/-- `LD A,R`: A <- R, after this instruction's own two increments; P/V <- IFF2 (spec/40_load8.md R168). -/
def execLdAR (s : State) : Result :=
  .next (State.setFlags { s with a := s.r } fun _ => loadedFlags s.f.toFlags s.r s.iff2)

/-- `LD I,A`: I <- A (spec/40_load8.md R169). -/
def execLdIA (s : State) : Result := .next { s with i := s.a }

/-- `LD R,A`: R <- A, all eight bits (spec/40_load8.md R170). -/
def execLdRA (s : State) : Result := .next { s with r := s.a }

end Sys2Proof.Machine
end

