-- ==== Sys2Proof/Machine/RotateShift.lean ====
section
/-! DEFINITION. The meanings of the rotate and shift group (R332 to R365) of spec/46_rotate_shift.md.
Each starts from the state of spec/00_scope.md R9: PC is past the instruction, and R has advanced once for each of its
M1 cycles. None stops: no instruction of this processor can fault (spec/60_exceptions.md R450). -/

namespace Sys2Proof.Machine

/-- RLCA, RLA, RRCA, RRA: A and the flags H, N, C (spec/46_rotate_shift.md R331). -/
def State.rotateAcc (s : State) (r : Byte × Bool) : State :=
  State.setFlags { s with a := r.1 } fun _ => accRotateFlags s.f.toFlags r.2

/-- A CB-prefixed shift or rotate of a register (spec/46_rotate_shift.md R330, R331). -/
def State.shiftReg (s : State) (r : R8) (op : Byte → Byte × Bool) : State :=
  (s.setReg8 r (op (s.reg8 r)).1).setFlags fun _ => shiftFlags (op (s.reg8 r))

/-- A CB-prefixed shift or rotate of a byte in memory: read, write, then the flags (spec/46_rotate_shift.md R337). -/
def State.shiftByte (s : State) (a : Word) (op : Byte → Byte × Bool) : State :=
  (s.modifyByte a fun v => (op v).1).setFlags fun _ => shiftFlags (op (s.readByte a).1)

/-- RLD and RRD: `mem` gives the byte written back and `low` the new A[3:0], each from the byte read; the flags are
those of the new A, C kept (spec/46_rotate_shift.md R364, R365). -/
def State.rotateDigits (s : State) (mem : Byte → Byte) (low : Byte → BitVec 4) : State :=
  let a := s.a.extractLsb' 4 4 ++ low (s.readByte s.hl).1
  State.setFlags { s.modifyByte s.hl mem with a := a } fun _ => loadedFlags s.f.toFlags a (parity8 a)

/-- `RLCA`: A rotated left circular; H, N, C written (spec/46_rotate_shift.md R332). -/
def execRlca (s : State) : Result := .next (s.rotateAcc (rlc s.a))

/-- `RLA`: A rotated left through C; H, N, C written (spec/46_rotate_shift.md R333). -/
def execRla (s : State) : Result := .next (s.rotateAcc (rl s.f.c s.a))

/-- `RRCA`: A rotated right circular; H, N, C written (spec/46_rotate_shift.md R334). -/
def execRrca (s : State) : Result := .next (s.rotateAcc (rrc s.a))

/-- `RRA`: A rotated right through C; H, N, C written (spec/46_rotate_shift.md R335). -/
def execRra (s : State) : Result := .next (s.rotateAcc (rr s.f.c s.a))

/-- `RLC r`: rotate left circular, register (spec/46_rotate_shift.md R336). -/
def execRlcR (r : R8) (s : State) : Result := .next (s.shiftReg r rlc)

/-- `RLC (HL)`: rotate left circular, the byte at (HL) (spec/46_rotate_shift.md R337). -/
def execRlcAtHl (s : State) : Result := .next (s.shiftByte s.hl rlc)

/-- `RLC (IX+d)`: rotate left circular, the byte at (IX+d) (spec/46_rotate_shift.md R338). -/
def execRlcAtIx (d : Byte) (s : State) : Result := .next (s.shiftByte (s.eaIX d) rlc)

/-- `RLC (IY+d)`: rotate left circular, the byte at (IY+d) (spec/46_rotate_shift.md R339). -/
def execRlcAtIy (d : Byte) (s : State) : Result := .next (s.shiftByte (s.eaIY d) rlc)

/-- `RRC r`: rotate right circular, register (spec/46_rotate_shift.md R340). -/
def execRrcR (r : R8) (s : State) : Result := .next (s.shiftReg r rrc)

/-- `RRC (HL)`: rotate right circular, the byte at (HL) (spec/46_rotate_shift.md R341). -/
def execRrcAtHl (s : State) : Result := .next (s.shiftByte s.hl rrc)

/-- `RRC (IX+d)`: rotate right circular, the byte at (IX+d) (spec/46_rotate_shift.md R342). -/
def execRrcAtIx (d : Byte) (s : State) : Result := .next (s.shiftByte (s.eaIX d) rrc)

/-- `RRC (IY+d)`: rotate right circular, the byte at (IY+d) (spec/46_rotate_shift.md R343). -/
def execRrcAtIy (d : Byte) (s : State) : Result := .next (s.shiftByte (s.eaIY d) rrc)

/-- `RL r`: rotate left through C, register (spec/46_rotate_shift.md R344). -/
def execRlR (r : R8) (s : State) : Result := .next (s.shiftReg r (rl s.f.c))

/-- `RL (HL)`: rotate left through C, the byte at (HL) (spec/46_rotate_shift.md R345). -/
def execRlAtHl (s : State) : Result := .next (s.shiftByte s.hl (rl s.f.c))

/-- `RL (IX+d)`: rotate left through C, the byte at (IX+d) (spec/46_rotate_shift.md R346). -/
def execRlAtIx (d : Byte) (s : State) : Result := .next (s.shiftByte (s.eaIX d) (rl s.f.c))

/-- `RL (IY+d)`: rotate left through C, the byte at (IY+d) (spec/46_rotate_shift.md R347). -/
def execRlAtIy (d : Byte) (s : State) : Result := .next (s.shiftByte (s.eaIY d) (rl s.f.c))

/-- `RR r`: rotate right through C, register (spec/46_rotate_shift.md R348). -/
def execRrR (r : R8) (s : State) : Result := .next (s.shiftReg r (rr s.f.c))

/-- `RR (HL)`: rotate right through C, the byte at (HL) (spec/46_rotate_shift.md R349). -/
def execRrAtHl (s : State) : Result := .next (s.shiftByte s.hl (rr s.f.c))

/-- `RR (IX+d)`: rotate right through C, the byte at (IX+d) (spec/46_rotate_shift.md R350). -/
def execRrAtIx (d : Byte) (s : State) : Result := .next (s.shiftByte (s.eaIX d) (rr s.f.c))

/-- `RR (IY+d)`: rotate right through C, the byte at (IY+d) (spec/46_rotate_shift.md R351). -/
def execRrAtIy (d : Byte) (s : State) : Result := .next (s.shiftByte (s.eaIY d) (rr s.f.c))

/-- `SLA r`: shift left arithmetic, register (spec/46_rotate_shift.md R352). -/
def execSlaR (r : R8) (s : State) : Result := .next (s.shiftReg r sla)

/-- `SLA (HL)`: shift left arithmetic, the byte at (HL) (spec/46_rotate_shift.md R353). -/
def execSlaAtHl (s : State) : Result := .next (s.shiftByte s.hl sla)

/-- `SLA (IX+d)`: shift left arithmetic, the byte at (IX+d) (spec/46_rotate_shift.md R354). -/
def execSlaAtIx (d : Byte) (s : State) : Result := .next (s.shiftByte (s.eaIX d) sla)

/-- `SLA (IY+d)`: shift left arithmetic, the byte at (IY+d) (spec/46_rotate_shift.md R355). -/
def execSlaAtIy (d : Byte) (s : State) : Result := .next (s.shiftByte (s.eaIY d) sla)

/-- `SRA r`: shift right arithmetic, register (spec/46_rotate_shift.md R356). -/
def execSraR (r : R8) (s : State) : Result := .next (s.shiftReg r sra)

/-- `SRA (HL)`: shift right arithmetic, the byte at (HL) (spec/46_rotate_shift.md R357). -/
def execSraAtHl (s : State) : Result := .next (s.shiftByte s.hl sra)

/-- `SRA (IX+d)`: shift right arithmetic, the byte at (IX+d) (spec/46_rotate_shift.md R358). -/
def execSraAtIx (d : Byte) (s : State) : Result := .next (s.shiftByte (s.eaIX d) sra)

/-- `SRA (IY+d)`: shift right arithmetic, the byte at (IY+d) (spec/46_rotate_shift.md R359). -/
def execSraAtIy (d : Byte) (s : State) : Result := .next (s.shiftByte (s.eaIY d) sra)

/-- `SRL r`: shift right logical, register (spec/46_rotate_shift.md R360). -/
def execSrlR (r : R8) (s : State) : Result := .next (s.shiftReg r srl)

/-- `SRL (HL)`: shift right logical, the byte at (HL) (spec/46_rotate_shift.md R361). -/
def execSrlAtHl (s : State) : Result := .next (s.shiftByte s.hl srl)

/-- `SRL (IX+d)`: shift right logical, the byte at (IX+d) (spec/46_rotate_shift.md R362). -/
def execSrlAtIx (d : Byte) (s : State) : Result := .next (s.shiftByte (s.eaIX d) srl)

/-- `SRL (IY+d)`: shift right logical, the byte at (IY+d) (spec/46_rotate_shift.md R363). -/
def execSrlAtIy (d : Byte) (s : State) : Result := .next (s.shiftByte (s.eaIY d) srl)

/-- `RLD`: the digits A[3:0], m[7:4], m[3:0] rotate left (spec/46_rotate_shift.md R364). -/
def execRld (s : State) : Result :=
  .next (s.rotateDigits (fun m => m.extractLsb' 0 4 ++ s.a.extractLsb' 0 4) (fun m => m.extractLsb' 4 4))

/-- `RRD`: the digits A[3:0], m[7:4], m[3:0] rotate right (spec/46_rotate_shift.md R365). -/
def execRrd (s : State) : Result :=
  .next (s.rotateDigits (fun m => s.a.extractLsb' 0 4 ++ m.extractLsb' 4 4) (fun m => m.extractLsb' 0 4))

end Sys2Proof.Machine
end

