-- ==== Sys2Proof/Machine/Dispatch.lean ====
section
/-! DEFINITION. One arm per instruction: each calls the instruction's own meaning. -/

namespace Sys2Proof.Machine

def exec (i : Instr) (s : State) : Host.Outcome State Fault Refusal :=
  match i with
  -- spec/40_load8.md
  | .ldRR rd rs => Sys2Proof.Machine.execLdRR rd rs s
  | .ldRN r n => Sys2Proof.Machine.execLdRN r n s
  | .ldRAtHl r => Sys2Proof.Machine.execLdRAtHl r s
  | .ldRAtIx r d => Sys2Proof.Machine.execLdRAtIx r d s
  | .ldRAtIy r d => Sys2Proof.Machine.execLdRAtIy r d s
  | .ldAtHlR r => Sys2Proof.Machine.execLdAtHlR r s
  | .ldAtIxR d r => Sys2Proof.Machine.execLdAtIxR d r s
  | .ldAtIyR d r => Sys2Proof.Machine.execLdAtIyR d r s
  | .ldAtHlN n => Sys2Proof.Machine.execLdAtHlN n s
  | .ldAtIxN d n => Sys2Proof.Machine.execLdAtIxN d n s
  | .ldAtIyN d n => Sys2Proof.Machine.execLdAtIyN d n s
  | .ldAAtBc => Sys2Proof.Machine.execLdAAtBc s
  | .ldAAtDe => Sys2Proof.Machine.execLdAAtDe s
  | .ldAAtNn nn => Sys2Proof.Machine.execLdAAtNn nn s
  | .ldAtBcA => Sys2Proof.Machine.execLdAtBcA s
  | .ldAtDeA => Sys2Proof.Machine.execLdAtDeA s
  | .ldAtNnA nn => Sys2Proof.Machine.execLdAtNnA nn s
  | .ldAI => Sys2Proof.Machine.execLdAI s
  | .ldAR => Sys2Proof.Machine.execLdAR s
  | .ldIA => Sys2Proof.Machine.execLdIA s
  | .ldRA => Sys2Proof.Machine.execLdRA s
  -- spec/41_load16.md
  | .ldDdNn dd nn => Sys2Proof.Machine.execLdDdNn dd nn s
  | .ldIxNn nn => Sys2Proof.Machine.execLdIxNn nn s
  | .ldIyNn nn => Sys2Proof.Machine.execLdIyNn nn s
  | .ldHlAtNn nn => Sys2Proof.Machine.execLdHlAtNn nn s
  | .ldDdAtNn dd nn => Sys2Proof.Machine.execLdDdAtNn dd nn s
  | .ldIxAtNn nn => Sys2Proof.Machine.execLdIxAtNn nn s
  | .ldIyAtNn nn => Sys2Proof.Machine.execLdIyAtNn nn s
  | .ldAtNnHl nn => Sys2Proof.Machine.execLdAtNnHl nn s
  | .ldAtNnDd nn dd => Sys2Proof.Machine.execLdAtNnDd nn dd s
  | .ldAtNnIx nn => Sys2Proof.Machine.execLdAtNnIx nn s
  | .ldAtNnIy nn => Sys2Proof.Machine.execLdAtNnIy nn s
  | .ldSpHl => Sys2Proof.Machine.execLdSpHl s
  | .ldSpIx => Sys2Proof.Machine.execLdSpIx s
  | .ldSpIy => Sys2Proof.Machine.execLdSpIy s
  | .pushQq qq => Sys2Proof.Machine.execPushQq qq s
  | .pushIx => Sys2Proof.Machine.execPushIx s
  | .pushIy => Sys2Proof.Machine.execPushIy s
  | .popQq qq => Sys2Proof.Machine.execPopQq qq s
  | .popIx => Sys2Proof.Machine.execPopIx s
  | .popIy => Sys2Proof.Machine.execPopIy s
  -- spec/42_exchange_block.md
  | .exDeHl => Sys2Proof.Machine.execExDeHl s
  | .exAf => Sys2Proof.Machine.execExAf s
  | .exx => Sys2Proof.Machine.execExx s
  | .exSpHl => Sys2Proof.Machine.execExSpHl s
  | .exSpIx => Sys2Proof.Machine.execExSpIx s
  | .exSpIy => Sys2Proof.Machine.execExSpIy s
  | .ldi => Sys2Proof.Machine.execLdi s
  | .ldir => Sys2Proof.Machine.execLdir s
  | .ldd => Sys2Proof.Machine.execLdd s
  | .lddr => Sys2Proof.Machine.execLddr s
  | .cpi => Sys2Proof.Machine.execCpi s
  | .cpir => Sys2Proof.Machine.execCpir s
  | .cpd => Sys2Proof.Machine.execCpd s
  | .cpdr => Sys2Proof.Machine.execCpdr s
  -- spec/43_arith8.md
  | .addAR r => Sys2Proof.Machine.execAddAR r s
  | .addAN n => Sys2Proof.Machine.execAddAN n s
  | .addAAtHl => Sys2Proof.Machine.execAddAAtHl s
  | .addAAtIx d => Sys2Proof.Machine.execAddAAtIx d s
  | .addAAtIy d => Sys2Proof.Machine.execAddAAtIy d s
  | .adcAR r => Sys2Proof.Machine.execAdcAR r s
  | .adcAN n => Sys2Proof.Machine.execAdcAN n s
  | .adcAAtHl => Sys2Proof.Machine.execAdcAAtHl s
  | .adcAAtIx d => Sys2Proof.Machine.execAdcAAtIx d s
  | .adcAAtIy d => Sys2Proof.Machine.execAdcAAtIy d s
  | .subR r => Sys2Proof.Machine.execSubR r s
  | .subN n => Sys2Proof.Machine.execSubN n s
  | .subAtHl => Sys2Proof.Machine.execSubAtHl s
  | .subAtIx d => Sys2Proof.Machine.execSubAtIx d s
  | .subAtIy d => Sys2Proof.Machine.execSubAtIy d s
  | .sbcAR r => Sys2Proof.Machine.execSbcAR r s
  | .sbcAN n => Sys2Proof.Machine.execSbcAN n s
  | .sbcAAtHl => Sys2Proof.Machine.execSbcAAtHl s
  | .sbcAAtIx d => Sys2Proof.Machine.execSbcAAtIx d s
  | .sbcAAtIy d => Sys2Proof.Machine.execSbcAAtIy d s
  | .andR r => Sys2Proof.Machine.execAndR r s
  | .andN n => Sys2Proof.Machine.execAndN n s
  | .andAtHl => Sys2Proof.Machine.execAndAtHl s
  | .andAtIx d => Sys2Proof.Machine.execAndAtIx d s
  | .andAtIy d => Sys2Proof.Machine.execAndAtIy d s
  | .xorR r => Sys2Proof.Machine.execXorR r s
  | .xorN n => Sys2Proof.Machine.execXorN n s
  | .xorAtHl => Sys2Proof.Machine.execXorAtHl s
  | .xorAtIx d => Sys2Proof.Machine.execXorAtIx d s
  | .xorAtIy d => Sys2Proof.Machine.execXorAtIy d s
  | .orR r => Sys2Proof.Machine.execOrR r s
  | .orN n => Sys2Proof.Machine.execOrN n s
  | .orAtHl => Sys2Proof.Machine.execOrAtHl s
  | .orAtIx d => Sys2Proof.Machine.execOrAtIx d s
  | .orAtIy d => Sys2Proof.Machine.execOrAtIy d s
  | .cpR r => Sys2Proof.Machine.execCpR r s
  | .cpN n => Sys2Proof.Machine.execCpN n s
  | .cpAtHl => Sys2Proof.Machine.execCpAtHl s
  | .cpAtIx d => Sys2Proof.Machine.execCpAtIx d s
  | .cpAtIy d => Sys2Proof.Machine.execCpAtIy d s
  | .incR r => Sys2Proof.Machine.execIncR r s
  | .incAtHl => Sys2Proof.Machine.execIncAtHl s
  | .incAtIx d => Sys2Proof.Machine.execIncAtIx d s
  | .incAtIy d => Sys2Proof.Machine.execIncAtIy d s
  | .decR r => Sys2Proof.Machine.execDecR r s
  | .decAtHl => Sys2Proof.Machine.execDecAtHl s
  | .decAtIx d => Sys2Proof.Machine.execDecAtIx d s
  | .decAtIy d => Sys2Proof.Machine.execDecAtIy d s
  -- spec/44_general_cpu_control.md
  | .daa => Sys2Proof.Machine.execDaa s
  | .cpl => Sys2Proof.Machine.execCpl s
  | .neg => Sys2Proof.Machine.execNeg s
  | .ccf => Sys2Proof.Machine.execCcf s
  | .scf => Sys2Proof.Machine.execScf s
  | .nop => Sys2Proof.Machine.execNop s
  | .halt => Sys2Proof.Machine.execHalt s
  | .di => Sys2Proof.Machine.execDi s
  | .ei => Sys2Proof.Machine.execEi s
  | .im0 => Sys2Proof.Machine.execIm0 s
  | .im1 => Sys2Proof.Machine.execIm1 s
  | .im2 => Sys2Proof.Machine.execIm2 s
  -- spec/45_arith16.md
  | .addHlSs dd => Sys2Proof.Machine.execAddHlSs dd s
  | .adcHlSs dd => Sys2Proof.Machine.execAdcHlSs dd s
  | .sbcHlSs dd => Sys2Proof.Machine.execSbcHlSs dd s
  | .addIxPp pp => Sys2Proof.Machine.execAddIxPp pp s
  | .addIyRr rr => Sys2Proof.Machine.execAddIyRr rr s
  | .incSs dd => Sys2Proof.Machine.execIncSs dd s
  | .incIx => Sys2Proof.Machine.execIncIx s
  | .incIy => Sys2Proof.Machine.execIncIy s
  | .decSs dd => Sys2Proof.Machine.execDecSs dd s
  | .decIx => Sys2Proof.Machine.execDecIx s
  | .decIy => Sys2Proof.Machine.execDecIy s
  -- spec/46_rotate_shift.md
  | .rlca => Sys2Proof.Machine.execRlca s
  | .rla => Sys2Proof.Machine.execRla s
  | .rrca => Sys2Proof.Machine.execRrca s
  | .rra => Sys2Proof.Machine.execRra s
  | .rlcR r => Sys2Proof.Machine.execRlcR r s
  | .rlcAtHl => Sys2Proof.Machine.execRlcAtHl s
  | .rlcAtIx d => Sys2Proof.Machine.execRlcAtIx d s
  | .rlcAtIy d => Sys2Proof.Machine.execRlcAtIy d s
  | .rrcR r => Sys2Proof.Machine.execRrcR r s
  | .rrcAtHl => Sys2Proof.Machine.execRrcAtHl s
  | .rrcAtIx d => Sys2Proof.Machine.execRrcAtIx d s
  | .rrcAtIy d => Sys2Proof.Machine.execRrcAtIy d s
  | .rlR r => Sys2Proof.Machine.execRlR r s
  | .rlAtHl => Sys2Proof.Machine.execRlAtHl s
  | .rlAtIx d => Sys2Proof.Machine.execRlAtIx d s
  | .rlAtIy d => Sys2Proof.Machine.execRlAtIy d s
  | .rrR r => Sys2Proof.Machine.execRrR r s
  | .rrAtHl => Sys2Proof.Machine.execRrAtHl s
  | .rrAtIx d => Sys2Proof.Machine.execRrAtIx d s
  | .rrAtIy d => Sys2Proof.Machine.execRrAtIy d s
  | .slaR r => Sys2Proof.Machine.execSlaR r s
  | .slaAtHl => Sys2Proof.Machine.execSlaAtHl s
  | .slaAtIx d => Sys2Proof.Machine.execSlaAtIx d s
  | .slaAtIy d => Sys2Proof.Machine.execSlaAtIy d s
  | .sraR r => Sys2Proof.Machine.execSraR r s
  | .sraAtHl => Sys2Proof.Machine.execSraAtHl s
  | .sraAtIx d => Sys2Proof.Machine.execSraAtIx d s
  | .sraAtIy d => Sys2Proof.Machine.execSraAtIy d s
  | .srlR r => Sys2Proof.Machine.execSrlR r s
  | .srlAtHl => Sys2Proof.Machine.execSrlAtHl s
  | .srlAtIx d => Sys2Proof.Machine.execSrlAtIx d s
  | .srlAtIy d => Sys2Proof.Machine.execSrlAtIy d s
  | .rld => Sys2Proof.Machine.execRld s
  | .rrd => Sys2Proof.Machine.execRrd s
  -- spec/47_bit.md
  | .bitBR b r => Sys2Proof.Machine.execBitBR b r s
  | .bitBAtHl b => Sys2Proof.Machine.execBitBAtHl b s
  | .bitBAtIx b d => Sys2Proof.Machine.execBitBAtIx b d s
  | .bitBAtIy b d => Sys2Proof.Machine.execBitBAtIy b d s
  | .setBR b r => Sys2Proof.Machine.execSetBR b r s
  | .setBAtHl b => Sys2Proof.Machine.execSetBAtHl b s
  | .setBAtIx b d => Sys2Proof.Machine.execSetBAtIx b d s
  | .setBAtIy b d => Sys2Proof.Machine.execSetBAtIy b d s
  | .resBR b r => Sys2Proof.Machine.execResBR b r s
  | .resBAtHl b => Sys2Proof.Machine.execResBAtHl b s
  | .resBAtIx b d => Sys2Proof.Machine.execResBAtIx b d s
  | .resBAtIy b d => Sys2Proof.Machine.execResBAtIy b d s
  -- spec/48_jump_call_return.md
  | .jpNn nn => Sys2Proof.Machine.execJpNn nn s
  | .jpCcNn cc nn => Sys2Proof.Machine.execJpCcNn cc nn s
  | .jrE e => Sys2Proof.Machine.execJrE e s
  | .jrCE e => Sys2Proof.Machine.execJrCE e s
  | .jrNcE e => Sys2Proof.Machine.execJrNcE e s
  | .jrZE e => Sys2Proof.Machine.execJrZE e s
  | .jrNzE e => Sys2Proof.Machine.execJrNzE e s
  | .jpHl => Sys2Proof.Machine.execJpHl s
  | .jpIx => Sys2Proof.Machine.execJpIx s
  | .jpIy => Sys2Proof.Machine.execJpIy s
  | .djnzE e => Sys2Proof.Machine.execDjnzE e s
  | .callNn nn => Sys2Proof.Machine.execCallNn nn s
  | .callCcNn cc nn => Sys2Proof.Machine.execCallCcNn cc nn s
  | .ret => Sys2Proof.Machine.execRet s
  | .retCc cc => Sys2Proof.Machine.execRetCc cc s
  | .reti => Sys2Proof.Machine.execReti s
  | .retn => Sys2Proof.Machine.execRetn s
  | .rstP p => Sys2Proof.Machine.execRstP p s
  -- spec/49_io.md
  | .inAN n => Sys2Proof.Machine.execInAN n s
  | .inRC r => Sys2Proof.Machine.execInRC r s
  | .ini => Sys2Proof.Machine.execIni s
  | .inir => Sys2Proof.Machine.execInir s
  | .ind => Sys2Proof.Machine.execInd s
  | .indr => Sys2Proof.Machine.execIndr s
  | .outNA n => Sys2Proof.Machine.execOutNA n s
  | .outCR r => Sys2Proof.Machine.execOutCR r s
  | .outi => Sys2Proof.Machine.execOuti s
  | .otir => Sys2Proof.Machine.execOtir s
  | .outd => Sys2Proof.Machine.execOutd s
  | .otdr => Sys2Proof.Machine.execOtdr s

end Sys2Proof.Machine
end

