-- ==== Sys2Proof/Machine/Run.lean ====
section
/-! DEFINITION. The pieces of Listing R486 (spec/60_exceptions.md): the inputs of a step, Reset(), the bus grant, one
instruction with its sampling point, one NOP of the halt state, and the wake-up from IDLE1, IDLE2 and STOP. -/

namespace Sys2Proof.Machine

/-! The inputs of a step. -/

/-- The pin levels of this step, and the NMI falling edge latched in nmi_pending (spec/10_state.md R40, R44). With no
input left the pins keep their levels, and a passing INT pulse is over. -/
def State.takeInput (s : State) : State :=
  match s.inputs with
  | [] => { s with pins := { s.pins with intPulse := false } }
  | x :: rest => { s with pins := x.pins, nmiPending := s.nmiPending || x.nmiEdge, inputs := rest }

/-- The bytes another bus master writes in this step if it is given the bus (spec/20_memory.md R87). -/
def State.coming (s : State) : List (Word × Byte) :=
  match s.inputs with
  | [] => []
  | x :: _ => x.busWrites

/-! Reset. -/

/-- Reset() (spec/70_reset_and_hazards.md R521; spec/10_state.md Table R48): the registers the spec lists take their
values; those it leaves unspecified take free values (93_implementation_defined.md U10; log entry 4); memory is not
touched (R527); bus_granted follows BUSREQ (log entry 20). RESET at "0" is noted in the trace: the buses float (R522). -/
def State.applyReset (s : State) : State :=
  let u := fun k => Config.freeByte (s.draws + k)
  { s with
    a := u 0, f := FlagReg.ofByte (u 1), b := u 2, c := u 3, d := u 4, e := u 5, h := u 6, l := u 7,
    aAlt := u 8, fAlt := FlagReg.ofByte (u 9), bAlt := u 10, cAlt := u 11, dAlt := u 12, eAlt := u 13,
    hAlt := u 14, lAlt := u 15,
    ix := joinBytes (u 16) (u 17), iy := joinBytes (u 18) (u 19), sp := joinBytes (u 20) (u 21),
    pc := 0x0000, i := 0x00, r := 0x00,
    iff1 := false, iff2 := false, im := .mode0,
    halted := false, nmiPending := false, eiShadow := false,
    busGranted := s.pins.busreqLow, clockState := .running,
    draws := s.draws + 22, trace := .resetHeld :: s.trace }

/-! The bus grant. -/

/-- bus_granted <- 1: the MPU executes nothing and samples nothing, and the other master writes
(spec/60_exceptions.md R485; spec/20_memory.md R87). -/
def State.grantBus (s : State) (ws : List (Word × Byte)) : State :=
  State.storeAll (State.emit { s with busGranted := true } (.granted ws)) ws

/-- A step with RESET at "0" from its start. With BUSREQ at "0" too, bus_granted is 1 (spec/10_state.md Table R48), and
the other master's writes of the step land. DESIGN CHOICE: the spec does not say whether they do while RESET is held
(log entry 20). -/
def State.resetStep (s : State) (ws : List (Word × Byte)) : State :=
  if s.pins.busreqLow then s.applyReset.grantBus ws else s.applyReset

/-- BUSREQ at "0" while the internal clock is stopped: whether it is answered is a free value, drawn anew in each such
step, and the other master's writes land exactly where it is. bus_granted and the rest of the MPU's state are not
affected (spec/60_exceptions.md R485; 92_eei_decisions.md D24; 93_implementation_defined.md U13; log entry 21). -/
def State.sleepGrant (s : State) (ws : List (Word × Byte)) : State :=
  if s.pins.busreqLow then
    let t := { s.draw.2 with sleepBusack := s.draw.1.getLsbD 0 }
    if t.sleepBusack then State.storeAll (t.emit (.granted ws)) ws else t
  else s

/-! Running. -/

/-- The instruction is LD A,I or LD A,R (spec/60_exceptions.md R454 (e)). -/
def isLdAIR : Instr → Bool
  | .ldAI | .ldAR => true
  | _ => false

/-- An instruction that has been fetched: it is executed, and the sampling point ends it. -/
def State.execute (s : State) (i : Instr) : Ending :=
  match exec i s with
  | .next t => t.sample (isLdAIR i)
  | .fault why => .fault why s
  | .refused why => .refused why s

/-- One instruction: ei_shadow <- 0, fetch, decode, execute, sample. -/
def State.runInstr (s : State) : Ending :=
  match State.fetch { s with eiShadow := false } with
  | .rejected why t => .refused (.unassigned why) t
  | .instr i t => t.execute i

/-- One NOP of the halt state: an M1 cycle that moves R and nothing else, then the sampling point
(spec/60_exceptions.md R465, R467, R471). -/
def State.haltNop (s : State) : Ending := (s.emit (.haltFetch s.pc (s.ignoredAt s.pc))).refreshCycle.sample false

/-- R[6:0] becomes a free value where INT has stayed at "0" since the step before: the number of restarts, and of their
NOPs, is open (93_implementation_defined.md U12; 92_eei_decisions.md D12 (c); log entry 13). -/
def State.freeCount (s : State) (stayed : Bool) : State :=
  if stayed then { s.draw.2 with r := (s.r &&& 0x80) ||| (s.draw.1 &&& 0x7F) } else s

/-- The clock stops again, if the wake-up was not accepted (spec/60_exceptions.md R473). -/
def sleepAgain (saved : ClockState) : Ending → Ending
  | .next t => .next (if t.halted then { t with clockState := saved } else t)
  | .fault why t => .fault why t
  | .refused why t => .refused why t

/-- INT has been at "0", IFF1 being 0, since the step before, at the end of which it was at "0" (intWasLow). -/
def State.intStayed (s : State) (intWasLow : Bool) : Bool :=
  intWasLow && (s.pins.intLow || s.pins.intPulse) && !s.iff1

/-- The halt state in IDLE1, IDLE2 or STOP mode: INT at "0", whatever IFF1 holds, or a latched NMI starts the clock,
one NOP runs, and its sampling point decides (spec/60_exceptions.md R472 to R474). -/
def State.haltAsleep (s : State) (intWasLow : Bool) : Ending :=
  if s.pins.intLow || s.pins.intPulse || s.nmiPending then
    sleepAgain s.clockState (State.haltNop { s.freeCount (s.intStayed intWasLow) with clockState := .running })
  else .next s

/-- The MPU has the bus: an instruction, or the halt state (spec/60_exceptions.md R486). -/
def State.advance (s : State) (intWasLow : Bool) : Ending :=
  if s.halted then
    match s.clockState with
    | .running => s.haltNop
    | .idle1 | .idle2 | .stopped | .warmingUp => s.haltAsleep intWasLow
  else s.runInstr

/-- MS1 or MS2 changes while halted (93_implementation_defined.md U14). t is s with this step's pins. -/
def modeChanged (s t : State) : Bool := s.halted && (t.pins.ms1 != s.pins.ms1 || t.pins.ms2 != s.pins.ms2)

/-- The step where RESET is not at "0" at its start: the bus grant, an instruction or the halt state
(spec/60_exceptions.md Listing R486; the order is R459's). s is the state before, t the state with this step's pins. -/
def runFrom (s t : State) : Ending :=
  if modeChanged s t then .refused .modeChangedWhileHalted t
  else if t.pins.busreqLow && t.clockState == .running then .next (t.grantBus s.coming)
  else State.advance (State.sleepGrant { t with busGranted := false } s.coming) s.pins.intLow

/-! Reset in the middle of a step (spec/70_reset_and_hazards.md R522; log entry 10). -/

/-- The cycle is one of the MPU's own. -/
def BusCycle.byMpu : BusCycle → Bool
  | .granted _ | .resetHeld => false
  | .fetch _ _ | .refresh _ | .haltFetch _ _ | .memRead _ _ | .memWrite _ _ | .input _ _ | .output _ _ | .intAck _ _
  | .nmiAck _ _ => true

/-- At the end of the cycle BUSREQ is sampled, and an entry of State.grants is used: not between the two halves of an
M1 cycle (spec/20_memory.md R88). -/
def BusCycle.endsCycle : BusCycle → Bool
  | .refresh _ | .memRead _ _ | .memWrite _ _ | .input _ _ | .output _ _ => true
  | .fetch _ _ | .haltFetch _ _ | .intAck _ _ | .nmiAck _ _ | .granted _ | .resetHeld => false

/-- The byte of the cycle is one the outside supplies, an entry of State.dataIn. -/
def State.takesData (s : State) : BusCycle → Bool
  | .fetch a _ | .memRead a _ => s.kindAt a == .device
  | .input p _ => s.portAnswers p
  | .intAck _ _ => true
  | .refresh _ | .haltFetch _ _ | .memWrite _ _ | .output _ _ | .nmiAck _ _ | .granted _ | .resetHeld => false

/-- The bus cycles from s to t, the first one first. -/
def cyclesSince (s t : State) : List BusCycle := (t.trace.take (t.trace.length - s.trace.length)).reverse

/-- The bus cycles up to the n-th of the MPU's own, with the bus grants at the end of it, and those that are left. -/
def cutAt : Nat → List BusCycle → List BusCycle × List BusCycle
  | _, [] => ([], [])
  | n, c :: cs =>
    if c.byMpu then
      match n with
      | 0 => ([], c :: cs)
      | k + 1 => (c :: (cutAt k cs).1, (cutAt k cs).2)
    else (c :: (cutAt n cs).1, (cutAt n cs).2)

/-- The bytes that bus cycles write to memory, the MPU's and another master's. -/
def writesOf : List BusCycle → List (Word × Byte)
  | [] => []
  | .memWrite a v :: cs => (a, v) :: writesOf cs
  | .granted ws :: cs => ws ++ writesOf cs
  | _ :: cs => writesOf cs

/-- The write of the cycle that RESET cuts, the first of those left: any byte at its address, where it is a memory write
that RESET corrupts. -/
def cutWrite (left : List BusCycle) (corrupts : Bool) (any : Byte) : List (Word × Byte) :=
  match left with
  | .memWrite a _ :: _ => if corrupts then [(a, any)] else []
  | _ => []

/-- RESET falls after n of the MPU's bus cycles of a step from t whose cycles would have reached v: memory has the writes
done so far, the MPU's and another master's, the outside has used what those cycles take, the registers are those of
Reset(), and RESET stays at "0". -/
def State.abandon (t v : State) (n : Nat) (corrupts : Bool) : State :=
  let cut := cutAt n (cyclesSince t v)
  State.applyReset { State.storeAll { t with draws := v.draws + 1 }
      (writesOf cut.1 ++ cutWrite cut.2 corrupts (Config.freeByte v.draws)) with
    trace := cut.1.reverse ++ t.trace
    pins := { t.pins with reset := .asserted }
    grants := t.grants.drop (cut.1.countP BusCycle.endsCycle)
    dataIn := t.dataIn.drop (cut.1.countP t.takesData) }

/-- A step from t into which RESET falls after n of the MPU's bus cycles. What the spec refuses is refused only where
RESET comes after the cycles that lead to it. -/
def cutShort (t : State) (n : Nat) (corrupts : Bool) (e : Ending) : Result :=
  match e, (cutAt n (cyclesSince t e.reached)).2 with
  | .fault why _, [] => .fault why
  | .refused why _, [] => .refused why
  | e, _ => .next (t.abandon e.reached n corrupts)

/-- Step() after the inputs have been taken: s is the state before, t the state with this step's pins
(spec/60_exceptions.md Listing R486; the order is R459's: RESET first). With RESET and BUSREQ both at "0" another
master's writes land (State.resetStep): DESIGN CHOICE, log entry 20. -/
def stepFrom (s t : State) : Result :=
  match t.pins.reset with
  | .tooShort => .fault .resetTooShort
  | .asserted => .next (t.resetStep s.coming)
  | .during n corrupts => cutShort t n corrupts (runFrom s t)
  | .inactive => (runFrom s t).result

/-! Placing a program. -/

/-- Memory with bytes stored at consecutive addresses, wrapping at 65536 (spec/30_encoding.md R110). -/
def Memory.storeBytes (m : Memory) (a : Word) : List Byte → Memory
  | [] => m
  | v :: vs => Memory.storeBytes (m.store a.toNat v) (a + 1) vs

/-- A region that would keep a fetch at a, a + 1, a + 2 or a + 3 from reading memory. -/
def hidesFetch (a : Word) (g : Region) : Bool :=
  (g.kind == .device || g.kind == .empty) && (g.holds a || g.holds (a + 1) || g.holds (a + 2) || g.holds (a + 3))

end Sys2Proof.Machine
end

