-- ==== Sys2Proof/Machine/Step.lean ====
section
/-! DEFINITION. One step of the machine, and the placing of one instruction where the next step fetches. -/

namespace Sys2Proof.Machine

/-- Step() (spec/60_exceptions.md Listing R486). -/
def step (s : State) : Host.Outcome State Fault Refusal := stepFrom s s.takeInput

/-- s with the bytes of a table word at PC, and whatever would keep the next step from fetching them out of the way: a
halt, a reset, a bus request, coming inputs and grants, a region of the map that is not memory. It stands for the load
of a program from outside the machine (log entries 16, 17). -/
def State.withFetchWord (s : State) (nbits w : Nat) : State :=
  { s with
    mem := s.mem.storeBytes s.pc (tableBytes nbits w)
    halted := false
    clockState := .running
    pins := { s.pins with reset := .inactive, busreqLow := false }
    inputs := []
    grants := []
    memMap := s.memMap.filter fun g => !hidesFetch s.pc g }

end Sys2Proof.Machine
end

