-- ==== Sys2Proof/Machine/Pins.lean ====
section
/-! DEFINITION. The output pins, functions of the state and of the bus cycle (spec/10_state.md R44): the bus control
outputs (spec/20_memory.md Table R95), HALT, BUSACK, and the clock (spec/60_exceptions.md Table R466). No step reads
them. -/

namespace Sys2Proof.Machine

/-- The level of an output pin; Z is the high impedance state (spec/20_memory.md R95). -/
inductive Level where
  | low
  | high
  | z
deriving DecidableEq, Repr

/-- The bus control outputs of a cycle. -/
structure BusSignals where
  m1 : Level
  mreq : Level
  iorq : Level
  rd : Level
  wr : Level
deriving DecidableEq, Repr

/-- Table R95 (spec/20_memory.md); the non-maskable interrupt's cycle is "an ordinary-looking M1 cycle (MREQ and RD
active)" (R96), and a NOP of the halt state is an M1 cycle (60_exceptions.md R465). While RESET is at "0" they are inactive
(spec/70_reset_and_hazards.md R522). -/
def BusCycle.signals : BusCycle → BusSignals
  | .fetch _ _ | .haltFetch _ _ => ⟨.low, .low, .high, .low, .high⟩
  | .refresh _ => ⟨.high, .low, .high, .high, .high⟩
  | .memRead _ _ => ⟨.high, .low, .high, .low, .high⟩
  | .memWrite _ _ => ⟨.high, .low, .high, .high, .low⟩
  | .input _ _ => ⟨.high, .high, .low, .low, .high⟩
  | .output _ _ => ⟨.high, .high, .low, .high, .low⟩
  | .intAck _ _ => ⟨.low, .high, .low, .high, .high⟩
  | .nmiAck _ _ => ⟨.low, .low, .high, .low, .high⟩
  | .granted _ => ⟨.high, .z, .z, .z, .z⟩
  | .resetHeld => ⟨.high, .high, .high, .high, .high⟩

/-- The address bus in a cycle (Table R95): none while it floats, in a bus grant and while RESET is at "0"
(spec/70_reset_and_hazards.md R522). -/
def BusCycle.address : BusCycle → Option Word
  | .fetch a _ | .refresh a | .memRead a _ | .memWrite a _ | .input a _ | .output a _ | .intAck a _ | .nmiAck a _
  | .haltFetch a _ => some a
  | .granted _ | .resetHeld => none

/-- The byte transferred on the data bus in a cycle (Table R95): none where no byte is transferred, or where the MPU
ignores it and memory holds no known one (log entry 18). -/
def BusCycle.data : BusCycle → Option Byte
  | .fetch _ v | .memRead _ v | .memWrite _ v | .input _ v | .output _ v | .intAck _ v => some v
  | .haltFetch _ v | .nmiAck _ v => v
  | .refresh _ | .granted _ | .resetHeld => none

/-- HALT is at "0" in the halt state (spec/10_state.md R39). -/
def State.haltPin (s : State) : Level := if s.halted then .low else .high

/-- BUSACK is at "0" while the bus is granted (spec/10_state.md R45). While the internal clock is stopped the answer to
BUSREQ is open: the free value that the step drew (State.sleepGrant; 93_implementation_defined.md U13; log entry 21). -/
def State.busackPin (s : State) : Level :=
  if s.busGranted || (s.pins.busreqLow && s.clockState != .running && s.sleepBusack) then .low else .high

/-- The oscillator runs (spec/10_state.md R43; spec/60_exceptions.md Table R466). -/
def ClockState.oscillatorRuns : ClockState → Bool
  | .running | .idle1 | .idle2 | .warmingUp => true
  | .stopped => false

/-- The internal system clock runs (Table R466). -/
def ClockState.internalRuns : ClockState → Bool
  | .running => true
  | .idle1 | .idle2 | .stopped | .warmingUp => false

/-- The CLK output runs; otherwise it is held at "0" (Table R466; spec/90_conflicts.md C17). -/
def ClockState.clkRuns : ClockState → Bool
  | .running | .idle2 => true
  | .idle1 | .stopped | .warmingUp => false

end Sys2Proof.Machine
end

