-- ==== Sys2Proof/Machine/Timing.lean ====
section
/-! DEFINITION. Timing, for information (spec/70_reset_and_hazards.md R560: "No instruction's result depends on
timing"): the T states of each instruction with no wait state requested, of an interrupt response, and of the restarts
out of the stopped clock. No step reads them (log entry 9). -/

namespace Sys2Proof.Machine

/-- T states of an instruction (spec/70_reset_and_hazards.md Table R560). `taken` says that a conditional jump, call or
return is taken, or that a repeating instruction repeats; the others take the same time either way. HALT's 4 are those
of its own fetch: each NOP of the halt state takes 4 more (R465). -/
def tStates : Instr → Bool → Nat
  | .ldRR _ _, _ => 4
  | .ldRN _ _, _ => 7
  | .ldRAtHl _, _ => 7
  | .ldRAtIx _ _, _ => 19
  | .ldRAtIy _ _, _ => 19
  | .ldAtHlR _, _ => 7
  | .ldAtIxR _ _, _ => 19
  | .ldAtIyR _ _, _ => 19
  | .ldAtHlN _, _ => 10
  | .ldAtIxN _ _, _ => 19
  | .ldAtIyN _ _, _ => 19
  | .ldAAtBc, _ => 7
  | .ldAAtDe, _ => 7
  | .ldAAtNn _, _ => 13
  | .ldAtBcA, _ => 7
  | .ldAtDeA, _ => 7
  | .ldAtNnA _, _ => 13
  | .ldAI, _ => 9
  | .ldAR, _ => 9
  | .ldIA, _ => 9
  | .ldRA, _ => 9
  | .ldDdNn _ _, _ => 10
  | .ldIxNn _, _ => 14
  | .ldIyNn _, _ => 14
  | .ldHlAtNn _, _ => 16
  | .ldDdAtNn _ _, _ => 20
  | .ldIxAtNn _, _ => 20
  | .ldIyAtNn _, _ => 20
  | .ldAtNnHl _, _ => 16
  | .ldAtNnDd _ _, _ => 20
  | .ldAtNnIx _, _ => 20
  | .ldAtNnIy _, _ => 20
  | .ldSpHl, _ => 6
  | .ldSpIx, _ => 10
  | .ldSpIy, _ => 10
  | .pushQq _, _ => 11
  | .pushIx, _ => 15
  | .pushIy, _ => 15
  | .popQq _, _ => 10
  | .popIx, _ => 14
  | .popIy, _ => 14
  | .exDeHl, _ => 4
  | .exAf, _ => 4
  | .exx, _ => 4
  | .exSpHl, _ => 19
  | .exSpIx, _ => 23
  | .exSpIy, _ => 23
  | .ldi, _ => 16
  | .ldir, taken => if taken then 21 else 16
  | .ldd, _ => 16
  | .lddr, taken => if taken then 21 else 16
  | .cpi, _ => 16
  | .cpir, taken => if taken then 21 else 16
  | .cpd, _ => 16
  | .cpdr, taken => if taken then 21 else 16
  | .addAR _, _ => 4
  | .addAN _, _ => 7
  | .addAAtHl, _ => 7
  | .addAAtIx _, _ => 19
  | .addAAtIy _, _ => 19
  | .adcAR _, _ => 4
  | .adcAN _, _ => 7
  | .adcAAtHl, _ => 7
  | .adcAAtIx _, _ => 19
  | .adcAAtIy _, _ => 19
  | .subR _, _ => 4
  | .subN _, _ => 7
  | .subAtHl, _ => 7
  | .subAtIx _, _ => 19
  | .subAtIy _, _ => 19
  | .sbcAR _, _ => 4
  | .sbcAN _, _ => 7
  | .sbcAAtHl, _ => 7
  | .sbcAAtIx _, _ => 19
  | .sbcAAtIy _, _ => 19
  | .andR _, _ => 4
  | .andN _, _ => 7
  | .andAtHl, _ => 7
  | .andAtIx _, _ => 19
  | .andAtIy _, _ => 19
  | .xorR _, _ => 4
  | .xorN _, _ => 7
  | .xorAtHl, _ => 7
  | .xorAtIx _, _ => 19
  | .xorAtIy _, _ => 19
  | .orR _, _ => 4
  | .orN _, _ => 7
  | .orAtHl, _ => 7
  | .orAtIx _, _ => 19
  | .orAtIy _, _ => 19
  | .cpR _, _ => 4
  | .cpN _, _ => 7
  | .cpAtHl, _ => 7
  | .cpAtIx _, _ => 19
  | .cpAtIy _, _ => 19
  | .incR _, _ => 4
  | .incAtHl, _ => 11
  | .incAtIx _, _ => 23
  | .incAtIy _, _ => 23
  | .decR _, _ => 4
  | .decAtHl, _ => 11
  | .decAtIx _, _ => 23
  | .decAtIy _, _ => 23
  | .daa, _ => 4
  | .cpl, _ => 4
  | .neg, _ => 8
  | .ccf, _ => 4
  | .scf, _ => 4
  | .nop, _ => 4
  | .halt, _ => 4
  | .di, _ => 4
  | .ei, _ => 4
  | .im0, _ => 8
  | .im1, _ => 8
  | .im2, _ => 8
  | .addHlSs _, _ => 11
  | .adcHlSs _, _ => 15
  | .sbcHlSs _, _ => 15
  | .addIxPp _, _ => 15
  | .addIyRr _, _ => 15
  | .incSs _, _ => 6
  | .incIx, _ => 10
  | .incIy, _ => 10
  | .decSs _, _ => 6
  | .decIx, _ => 10
  | .decIy, _ => 10
  | .rlca, _ => 4
  | .rla, _ => 4
  | .rrca, _ => 4
  | .rra, _ => 4
  | .rlcR _, _ => 8
  | .rlcAtHl, _ => 15
  | .rlcAtIx _, _ => 23
  | .rlcAtIy _, _ => 23
  | .rrcR _, _ => 8
  | .rrcAtHl, _ => 15
  | .rrcAtIx _, _ => 23
  | .rrcAtIy _, _ => 23
  | .rlR _, _ => 8
  | .rlAtHl, _ => 15
  | .rlAtIx _, _ => 23
  | .rlAtIy _, _ => 23
  | .rrR _, _ => 8
  | .rrAtHl, _ => 15
  | .rrAtIx _, _ => 23
  | .rrAtIy _, _ => 23
  | .slaR _, _ => 8
  | .slaAtHl, _ => 15
  | .slaAtIx _, _ => 23
  | .slaAtIy _, _ => 23
  | .sraR _, _ => 8
  | .sraAtHl, _ => 15
  | .sraAtIx _, _ => 23
  | .sraAtIy _, _ => 23
  | .srlR _, _ => 8
  | .srlAtHl, _ => 15
  | .srlAtIx _, _ => 23
  | .srlAtIy _, _ => 23
  | .rld, _ => 18
  | .rrd, _ => 18
  | .bitBR _ _, _ => 8
  | .bitBAtHl _, _ => 12
  | .bitBAtIx _ _, _ => 20
  | .bitBAtIy _ _, _ => 20
  | .setBR _ _, _ => 8
  | .setBAtHl _, _ => 15
  | .setBAtIx _ _, _ => 23
  | .setBAtIy _ _, _ => 23
  | .resBR _ _, _ => 8
  | .resBAtHl _, _ => 15
  | .resBAtIx _ _, _ => 23
  | .resBAtIy _ _, _ => 23
  | .jpNn _, _ => 10
  | .jpCcNn _ _, _ => 10
  | .jrE _, _ => 12
  | .jrCE _, taken => if taken then 12 else 7
  | .jrNcE _, taken => if taken then 12 else 7
  | .jrZE _, taken => if taken then 12 else 7
  | .jrNzE _, taken => if taken then 12 else 7
  | .jpHl, _ => 4
  | .jpIx, _ => 8
  | .jpIy, _ => 8
  | .djnzE _, taken => if taken then 13 else 8
  | .callNn _, _ => 17
  | .callCcNn _ _, taken => if taken then 17 else 10
  | .ret, _ => 10
  | .retCc _, taken => if taken then 11 else 5
  | .reti, _ => 14
  | .retn, _ => 14
  | .rstP _, _ => 11
  | .inAN _, _ => 11
  | .inRC _, _ => 12
  | .ini, _ => 16
  | .inir, taken => if taken then 21 else 16
  | .ind, _ => 16
  | .indr, taken => if taken then 21 else 16
  | .outNA _, _ => 11
  | .outCR _, _ => 12
  | .outi, _ => 16
  | .otir, taken => if taken then 21 else 16
  | .outd, _ => 16
  | .otdr, taken => if taken then 21 else 16

/-- T states of the response to the non-maskable interrupt (spec/70_reset_and_hazards.md R562). -/
def nmiResponse : Nat := 11

/-- T states of the response to the maskable interrupt, by mode, the two automatic wait states of the acknowledge
cycle among them (spec/70_reset_and_hazards.md R562; spec/20_memory.md R93). -/
def intResponse : IntMode → Nat
  | .mode0 => 13
  | .mode1 => 13
  | .mode2 => 19

/-- HALF clock periods from the wake-up signal to the restart of the internal clock, typical: 2.5 TcC in IDLE1 and
IDLE2, (2^14 + 2.5) TcC in STOP mode (spec/60_exceptions.md R472, R474; spec/90_conflicts.md C8). -/
def restartHalfClocks : ClockState → Nat
  | .idle1 | .idle2 => 5
  | .stopped | .warmingUp => 2 * 2 ^ 14 + 5
  | .running => 0

/-- Clock periods for which RESET must be at "0" (spec/70_reset_and_hazards.md R520). -/
def resetClocks : Nat := 3

/-- Wait states the MPU inserts by itself in an input or output cycle (spec/20_memory.md R93). -/
def autoWaitIo : Nat := 1

/-- Wait states the MPU inserts by itself in a maskable interrupt acknowledge cycle (spec/20_memory.md R93). -/
def autoWaitAck : Nat := 2

/-- The shortest clock period in ns: at 5 V the 01F's 4 MHz and the 02AF-6's 6 MHz, and the 01F at low voltage
(spec/70_reset_and_hazards.md R540). There is no longest: the clock may stop. -/
def minClockPeriodNs : Variant → Bool → Nat
  | .tmpz84c01f, false => 250
  | .tmpz84c01f, true => 1000
  | .tmpz84c02af6, _ => 165

end Sys2Proof.Machine
end

