-- ==== Sys2Proof/Safety.lean ====
section
/-! DEFINITION. What counts as a safe step and a safe run, and the invariant of the machine's state. -/

namespace Sys2Proof.Machine

/-- The step ends in a next state: RESET is not cut short, and nothing is met that the spec tells a model to refuse. -/
def safeStep (s : State) : Prop := ∃ t, step s = .next t

/-- Every one of the next n steps ends in a next state. -/
def safeRun : Nat → State → Prop
  | 0, _ => True
  | n + 1, s => ∃ t, step s = .next t ∧ safeRun n t

/-- The states the machine's own rules allow: memory in its canonical form; the clock stopped only in the halt state
(spec/60_exceptions.md R466), never between two steps in its warm-up (R474, R486); the bus granted only while the clock
runs (R486); ei_shadow only after an EI, which leaves IFF1 and IFF2 set and is no HALT (spec/10_state.md R41). -/
structure Inv (s : State) : Prop where
  memWf : s.mem.wf = true
  runs : s.halted = false → s.clockState = .running
  notWarming : s.clockState ≠ .warmingUp
  grantRuns : s.busGranted = true → s.clockState = .running
  shadow : s.eiShadow = true → s.iff2 = true ∧ s.halted = false

end Sys2Proof.Machine
end

