-- ==== Sys2Proof/WellFormed.lean ====
section
/-! DEFINITION. Which terms of Instr are instructions: the bit number of BIT, SET and RES is 0 to 7
(spec/30_encoding.md R118) and the address of RST is one of 00H, 08H, 10H, 18H, 20H, 28H, 30H, 38H (R119). Every other
operand takes every value of its type. -/

namespace Sys2Proof

/-- A bit number is 0 to 7 (spec/30_encoding.md R118). -/
def bitNumberOk (b : Nat) : Bool := decide (b < 8)

/-- A restart address is a multiple of 8 below 40H (spec/30_encoding.md R119). -/
def restartOk (p : Byte) : Bool := p &&& 0xC7#8 == 0#8

/-- The instruction is one the encoding can hold. -/
def WellFormed : Instr → Bool
  | .ldRR _ _ => true
  | .ldRN _ _ => true
  | .ldRAtHl _ => true
  | .ldRAtIx _ _ => true
  | .ldRAtIy _ _ => true
  | .ldAtHlR _ => true
  | .ldAtIxR _ _ => true
  | .ldAtIyR _ _ => true
  | .ldAtHlN _ => true
  | .ldAtIxN _ _ => true
  | .ldAtIyN _ _ => true
  | .ldAAtBc => true
  | .ldAAtDe => true
  | .ldAAtNn _ => true
  | .ldAtBcA => true
  | .ldAtDeA => true
  | .ldAtNnA _ => true
  | .ldAI => true
  | .ldAR => true
  | .ldIA => true
  | .ldRA => true
  | .ldDdNn _ _ => true
  | .ldIxNn _ => true
  | .ldIyNn _ => true
  | .ldHlAtNn _ => true
  | .ldDdAtNn _ _ => true
  | .ldIxAtNn _ => true
  | .ldIyAtNn _ => true
  | .ldAtNnHl _ => true
  | .ldAtNnDd _ _ => true
  | .ldAtNnIx _ => true
  | .ldAtNnIy _ => true
  | .ldSpHl => true
  | .ldSpIx => true
  | .ldSpIy => true
  | .pushQq _ => true
  | .pushIx => true
  | .pushIy => true
  | .popQq _ => true
  | .popIx => true
  | .popIy => true
  | .exDeHl => true
  | .exAf => true
  | .exx => true
  | .exSpHl => true
  | .exSpIx => true
  | .exSpIy => true
  | .ldi => true
  | .ldir => true
  | .ldd => true
  | .lddr => true
  | .cpi => true
  | .cpir => true
  | .cpd => true
  | .cpdr => true
  | .addAR _ => true
  | .addAN _ => true
  | .addAAtHl => true
  | .addAAtIx _ => true
  | .addAAtIy _ => true
  | .adcAR _ => true
  | .adcAN _ => true
  | .adcAAtHl => true
  | .adcAAtIx _ => true
  | .adcAAtIy _ => true
  | .subR _ => true
  | .subN _ => true
  | .subAtHl => true
  | .subAtIx _ => true
  | .subAtIy _ => true
  | .sbcAR _ => true
  | .sbcAN _ => true
  | .sbcAAtHl => true
  | .sbcAAtIx _ => true
  | .sbcAAtIy _ => true
  | .andR _ => true
  | .andN _ => true
  | .andAtHl => true
  | .andAtIx _ => true
  | .andAtIy _ => true
  | .xorR _ => true
  | .xorN _ => true
  | .xorAtHl => true
  | .xorAtIx _ => true
  | .xorAtIy _ => true
  | .orR _ => true
  | .orN _ => true
  | .orAtHl => true
  | .orAtIx _ => true
  | .orAtIy _ => true
  | .cpR _ => true
  | .cpN _ => true
  | .cpAtHl => true
  | .cpAtIx _ => true
  | .cpAtIy _ => true
  | .incR _ => true
  | .incAtHl => true
  | .incAtIx _ => true
  | .incAtIy _ => true
  | .decR _ => true
  | .decAtHl => true
  | .decAtIx _ => true
  | .decAtIy _ => true
  | .daa => true
  | .cpl => true
  | .neg => true
  | .ccf => true
  | .scf => true
  | .nop => true
  | .halt => true
  | .di => true
  | .ei => true
  | .im0 => true
  | .im1 => true
  | .im2 => true
  | .addHlSs _ => true
  | .adcHlSs _ => true
  | .sbcHlSs _ => true
  | .addIxPp _ => true
  | .addIyRr _ => true
  | .incSs _ => true
  | .incIx => true
  | .incIy => true
  | .decSs _ => true
  | .decIx => true
  | .decIy => true
  | .rlca => true
  | .rla => true
  | .rrca => true
  | .rra => true
  | .rlcR _ => true
  | .rlcAtHl => true
  | .rlcAtIx _ => true
  | .rlcAtIy _ => true
  | .rrcR _ => true
  | .rrcAtHl => true
  | .rrcAtIx _ => true
  | .rrcAtIy _ => true
  | .rlR _ => true
  | .rlAtHl => true
  | .rlAtIx _ => true
  | .rlAtIy _ => true
  | .rrR _ => true
  | .rrAtHl => true
  | .rrAtIx _ => true
  | .rrAtIy _ => true
  | .slaR _ => true
  | .slaAtHl => true
  | .slaAtIx _ => true
  | .slaAtIy _ => true
  | .sraR _ => true
  | .sraAtHl => true
  | .sraAtIx _ => true
  | .sraAtIy _ => true
  | .srlR _ => true
  | .srlAtHl => true
  | .srlAtIx _ => true
  | .srlAtIy _ => true
  | .rld => true
  | .rrd => true
  | .bitBR b _ => bitNumberOk b
  | .bitBAtHl b => bitNumberOk b
  | .bitBAtIx b _ => bitNumberOk b
  | .bitBAtIy b _ => bitNumberOk b
  | .setBR b _ => bitNumberOk b
  | .setBAtHl b => bitNumberOk b
  | .setBAtIx b _ => bitNumberOk b
  | .setBAtIy b _ => bitNumberOk b
  | .resBR b _ => bitNumberOk b
  | .resBAtHl b => bitNumberOk b
  | .resBAtIx b _ => bitNumberOk b
  | .resBAtIy b _ => bitNumberOk b
  | .jpNn _ => true
  | .jpCcNn _ _ => true
  | .jrE _ => true
  | .jrCE _ => true
  | .jrNcE _ => true
  | .jrZE _ => true
  | .jrNzE _ => true
  | .jpHl => true
  | .jpIx => true
  | .jpIy => true
  | .djnzE _ => true
  | .callNn _ => true
  | .callCcNn _ _ => true
  | .ret => true
  | .retCc _ => true
  | .reti => true
  | .retn => true
  | .rstP p => restartOk p
  | .inAN _ => true
  | .inRC _ => true
  | .ini => true
  | .inir => true
  | .ind => true
  | .indr => true
  | .outNA _ => true
  | .outCR _ => true
  | .outi => true
  | .otir => true
  | .outd => true
  | .otdr => true

end Sys2Proof
end

