-- ==== Sys2Proof/Certificates/Slice0/Obligations.lean ====
section
/-! DEFINITION. The statements for the provers, each `def Obligations.<Name> : Prop`, after the relations they are
written in: what an arithmetic rule of the spec asks of a result and its flags, in integers; and what an instruction
leaves unchanged. A frame is written `t = { s with x := t.x, ... }`: only the fields named can differ. A flag a
statement does not name is one the spec leaves open (spec/10_state.md R29, R30); bits 5 and 3 of F are never named for
an instruction that writes a flag. -/

namespace Sys2Proof.Machine

/-! Relations. -/

/-- No other master takes the bus at the end of a coming bus cycle (log entry 8). -/
def Alone (s : State) : Prop := s.grants = []

/-- Memory holds the byte v at a, in RAM or ROM. -/
def Holds (s : State) (a : Word) (v : Byte) : Prop :=
  (s.kindAt a = .ram ∨ s.kindAt a = .rom) ∧ s.mem.byteAt a.toNat = some v

/-- From s to t exactly the bytes ws are stored, each at an address of RAM; every other byte reads as before, the bytes
at addresses that are no RAM among them (spec/20_memory.md R73, R84). -/
def StoresAt (s t : State) (ws : List (Word × Byte)) : Prop :=
  (∀ w ∈ ws, s.kindAt w.1 = .ram → t.mem.byteAt w.1.toNat = some w.2) ∧
  (∀ x : Nat, (∀ w ∈ ws, w.1.toNat = x → s.kindAt w.1 ≠ .ram) → t.mem.byteAt x = s.mem.byteAt x)

/-- The number of 1 bits is even (spec/00_scope.md R8). -/
def EvenOnes (v : Byte) : Prop := (List.range 8).countP (fun k => v.getLsbD k) % 2 = 0

/-- res and fl are the sum x + y + c and its flags (spec/43_arith8.md R230, spec/45_arith16.md R310): H is the carry
out of the low w - 4 bits, P/V says that the signed sum does not fit, C that the unsigned one does not. -/
def SumRule {w : Nat} (x y : BitVec w) (c : Bool) (res : BitVec w) (fl : Flags) : Prop :=
  res.toNat = (x.toNat + y.toNat + c.toNat) % 2 ^ w ∧
  (fl.s = true ↔ res.toInt < 0) ∧ (fl.z = true ↔ res.toNat = 0) ∧
  (fl.h = true ↔ 2 ^ (w - 4) ≤ x.toNat % 2 ^ (w - 4) + y.toNat % 2 ^ (w - 4) + c.toNat) ∧
  (fl.pv = true ↔ x.toInt + y.toInt + (c.toNat : Int) < -2 ^ (w - 1) ∨ 2 ^ (w - 1) ≤ x.toInt + y.toInt + (c.toNat : Int)) ∧
  fl.n = false ∧ (fl.c = true ↔ 2 ^ w ≤ x.toNat + y.toNat + c.toNat)

/-- res and fl are the difference x - y - c and its flags (spec/43_arith8.md R231, spec/45_arith16.md R310): H and C
are borrows. -/
def DiffRule {w : Nat} (x y : BitVec w) (c : Bool) (res : BitVec w) (fl : Flags) : Prop :=
  (res.toNat : Int) = ((x.toNat : Int) - y.toNat - c.toNat) % 2 ^ w ∧
  (fl.s = true ↔ res.toInt < 0) ∧ (fl.z = true ↔ res.toNat = 0) ∧
  (fl.h = true ↔ x.toNat % 2 ^ (w - 4) < y.toNat % 2 ^ (w - 4) + c.toNat) ∧
  (fl.pv = true ↔ x.toInt - y.toInt - (c.toNat : Int) < -2 ^ (w - 1) ∨ 2 ^ (w - 1) ≤ x.toInt - y.toInt - (c.toNat : Int)) ∧
  fl.n = true ∧ (fl.c = true ↔ x.toNat < y.toNat + c.toNat)

/-- res and fl are a bitwise operation on x and y and its flags (spec/43_arith8.md R232). -/
def LogicRule (op : Bool → Bool → Bool) (h : Bool) (x y res : Byte) (fl : Flags) : Prop :=
  (∀ k < 8, res.getLsbD k = op (x.getLsbD k) (y.getLsbD k)) ∧
  (fl.s = true ↔ res.toInt < 0) ∧ (fl.z = true ↔ res.toNat = 0) ∧ fl.h = h ∧
  (fl.pv = true ↔ EvenOnes res) ∧ fl.n = false ∧ fl.c = false

/-- The row of spec/43_arith8.md Table R233 for ooo: x is A before, x' A after, y the operand, c the carry before. -/
def AccRule (ooo : Nat) (x y : Byte) (c : Bool) (x' : Byte) (fl : Flags) : Prop :=
  match ooo with
  | 0 => SumRule x y false x' fl
  | 1 => SumRule x y c x' fl
  | 2 => DiffRule x y false x' fl
  | 3 => DiffRule x y c x' fl
  | 4 => LogicRule (fun p q => p && q) true x y x' fl
  | 5 => LogicRule (fun p q => p != q) false x y x' fl
  | 6 => LogicRule (fun p q => p || q) false x y x' fl
  | _ => x' = x ∧ ∃ res, DiffRule x y false res fl

/-- The row of spec/46_rotate_shift.md Table R330 for ooo, in integers: the result and the bit that leaves. -/
def ShiftRule (ooo : Nat) (v : Byte) (cin : Bool) (res : Byte) (cout : Bool) : Prop :=
  match ooo with
  | 0 => res.toNat = 2 * (v.toNat % 128) + v.toNat / 128 ∧ (cout = true ↔ 128 ≤ v.toNat)
  | 1 => res.toNat = 128 * (v.toNat % 2) + v.toNat / 2 ∧ (cout = true ↔ v.toNat % 2 = 1)
  | 2 => res.toNat = 2 * (v.toNat % 128) + cin.toNat ∧ (cout = true ↔ 128 ≤ v.toNat)
  | 3 => res.toNat = 128 * cin.toNat + v.toNat / 2 ∧ (cout = true ↔ v.toNat % 2 = 1)
  | 4 => res.toNat = 2 * (v.toNat % 128) ∧ (cout = true ↔ 128 ≤ v.toNat)
  | 5 => res.toNat = 128 * (v.toNat / 128) + v.toNat / 2 ∧ (cout = true ↔ v.toNat % 2 = 1)
  | _ => res.toNat = v.toNat / 2 ∧ (cout = true ↔ v.toNat % 2 = 1)

/-- The flags of the CB-prefixed shifts (spec/46_rotate_shift.md R331). -/
def ShiftFlagsRule (res : Byte) (cout : Bool) (fl : Flags) : Prop :=
  (fl.s = true ↔ res.toInt < 0) ∧ (fl.z = true ↔ res.toNat = 0) ∧ fl.h = false ∧
  (fl.pv = true ↔ EvenOnes res) ∧ fl.n = false ∧ fl.c = cout

/-- The flags a loaded byte gives: S and Z from it, H and N reset, C kept, P/V as stated. -/
def LoadedRule (old : Flags) (v : Byte) (pv : Prop) (fl : Flags) : Prop :=
  (fl.s = true ↔ v.toInt < 0) ∧ (fl.z = true ↔ v.toNat = 0) ∧ fl.h = false ∧ (fl.pv = true ↔ pv) ∧
  fl.n = false ∧ fl.c = old.c

/-- The 8-bit register r, and of the general registers no other, takes the value v. -/
def OnlyReg8 (s t : State) (r : R8) (v : Byte) : Prop := ∀ q, t.reg8 q = if q = r then v else s.reg8 q

/-- i sets register r to v, and changes nothing else. -/
def SetsReg8 (i : Instr) (s : State) (r : R8) (v : Byte) : Prop :=
  ∃ t, exec i s = .next t ∧ OnlyReg8 s t r v ∧
    t = { s with a := t.a, b := t.b, c := t.c, d := t.d, e := t.e, h := t.h, l := t.l }

/-- i sets register r to the byte a read of address x gives, in one memory read cycle, and changes nothing else. -/
def LoadsReg8 (i : Instr) (s : State) (r : R8) (x : Word) : Prop :=
  ∃ t, exec i s = .next t ∧ OnlyReg8 s t r (s.dataAt x).1 ∧ t.trace = .memRead x (s.dataAt x).1 :: s.trace ∧
    t = { s with a := t.a, b := t.b, c := t.c, d := t.d, e := t.e, h := t.h, l := t.l,
                 dataIn := t.dataIn, draws := t.draws, trace := t.trace }

/-- i stores v at address x, in one memory write cycle, and changes nothing else. -/
def StoresReg8 (i : Instr) (s : State) (x : Word) (v : Byte) : Prop :=
  ∃ t, exec i s = .next t ∧ StoresAt s t [(x, v)] ∧ t = { s with mem := t.mem, trace := .memWrite x v :: s.trace }

/-- i stores the word v at x, low byte first, and changes nothing else. -/
def StoresWord (i : Instr) (s : State) (x v : Word) : Prop :=
  ∃ t, exec i s = .next t ∧ StoresAt s t [(x, loByte v), (x + 1, hiByte v)] ∧
    t = { s with mem := t.mem, trace := .memWrite (x + 1) (hiByte v) :: .memWrite x (loByte v) :: s.trace }

/-- From s to t the word v is pushed and PC becomes p: the high byte at SP - 1 first, the low byte at SP - 2, SP down
by 2, and nothing else changes. -/
def PushesTo (s t : State) (v p : Word) : Prop :=
  StoresAt s t [(s.sp - 1, hiByte v), (s.sp - 2, loByte v)] ∧
    t = { s with sp := s.sp - 2, pc := p, mem := t.mem,
                 trace := .memWrite (s.sp - 2) (loByte v) :: .memWrite (s.sp - 1) (hiByte v) :: s.trace }

/-- i applies the row ooo of Table R233 to A and v, and changes nothing but A and F. -/
def AccOnValue (ooo : Nat) (i : Instr) (s : State) (v : Byte) : Prop :=
  ∃ t, exec i s = .next t ∧ AccRule ooo s.a v s.f.c t.a t.f.toFlags ∧
    t = { s with a := t.a, f := t.f, draws := t.draws }

/-- i applies the row ooo of Table R233 to A and the byte at x, and changes nothing but A and F. -/
def AccOnByteAt (ooo : Nat) (i : Instr) (s : State) (x : Word) : Prop :=
  ∃ t, exec i s = .next t ∧ AccRule ooo s.a (s.dataAt x).1 s.f.c t.a t.f.toFlags ∧
    t.trace = .memRead x (s.dataAt x).1 :: s.trace ∧
    t = { s with a := t.a, f := t.f, dataIn := t.dataIn, draws := t.draws, trace := t.trace }

/-- i replaces the byte v read at x by res, one read cycle and then one write cycle, and its flags are fl; nothing
else changes. -/
def ModifiesByteAt (i : Instr) (s : State) (x : Word) (rule : Byte → Byte → Flags → Prop) : Prop :=
  ∃ t res, exec i s = .next t ∧ rule (s.dataAt x).1 res t.f.toFlags ∧ StoresAt s t [(x, res)] ∧
    t.trace = .memWrite x res :: .memRead x (s.dataAt x).1 :: s.trace ∧
    t = { s with f := t.f, mem := t.mem, dataIn := t.dataIn, draws := t.draws, trace := t.trace }

/-- What PC becomes after a relative jump by the byte e (spec/30_encoding.md R123), in integers. -/
def jumpTarget (s : State) (e : Byte) : Word := BitVec.ofInt 16 ((s.pc.toNat : Int) + e.toInt)

/-- The two-digit decimal number a packed-BCD byte stands for. -/
def decimalOf (v : Byte) : Nat := 10 * (v.toNat / 16) + v.toNat % 16

/-- Both digits of the byte are decimal. -/
def PackedDecimal (v : Byte) : Prop := v.toNat / 16 ≤ 9 ∧ v.toNat % 16 ≤ 9

/-- i copies the byte at HL to DE, moves both by step and BC down; P/V says BC is not 0; a repeating form goes back
to its own first byte unless BC is 0. -/
def Transfers (i : Instr) (s : State) (step : Word) (repeats : Bool) : Prop :=
  ∃ t, exec i s = .next t ∧ StoresAt s t [(s.de, (s.dataAt s.hl).1)] ∧
    t.hl = s.hl + step ∧ t.de = s.de + step ∧ t.bc = s.bc - 1 ∧
    t.f.h = false ∧ t.f.n = false ∧ (t.f.pv = true ↔ t.bc ≠ 0) ∧ t.f.s = s.f.s ∧ t.f.z = s.f.z ∧ t.f.c = s.f.c ∧
    t.pc = (if repeats = true ∧ t.bc ≠ 0 then s.pc - 2 else s.pc) ∧
    t = { s with b := t.b, c := t.c, d := t.d, e := t.e, h := t.h, l := t.l, f := t.f, pc := t.pc,
                 mem := t.mem, dataIn := t.dataIn, draws := t.draws, trace := t.trace }

/-- i compares A with the byte at HL, moves HL by step and BC down, A and memory untouched; a repeating form goes back
to its own first byte unless BC is 0 or the bytes are equal. -/
def Searches (i : Instr) (s : State) (step : Word) (repeats : Bool) : Prop :=
  ∃ t, exec i s = .next t ∧ t.hl = s.hl + step ∧ t.bc = s.bc - 1 ∧
    (∃ res fl, DiffRule s.a (s.dataAt s.hl).1 false res fl ∧ t.f.s = fl.s ∧ t.f.z = fl.z ∧ t.f.h = fl.h) ∧
    (t.f.z = true ↔ s.a = (s.dataAt s.hl).1) ∧ (t.f.pv = true ↔ t.bc ≠ 0) ∧ t.f.n = true ∧ t.f.c = s.f.c ∧
    t.pc = (if repeats = true ∧ t.bc ≠ 0 ∧ s.a ≠ (s.dataAt s.hl).1 then s.pc - 2 else s.pc) ∧
    t = { s with b := t.b, c := t.c, h := t.h, l := t.l, f := t.f, pc := t.pc,
                 dataIn := t.dataIn, draws := t.draws, trace := t.trace }

/-- i reads the port B : C, stores the byte at HL, moves HL by step and counts B down; Z says that B is 0; a repeating
form goes back to its own first byte unless B is 0. -/
def Inputs (i : Instr) (s : State) (step : Word) (repeats : Bool) : Prop :=
  ∃ t, exec i s = .next t ∧ StoresAt s t [(s.hl, (s.portIn s.bc).1)] ∧ t.hl = s.hl + step ∧ t.b = s.b - 1 ∧
    (t.f.z = true ↔ t.b = 0) ∧
    t.trace = .memWrite s.hl (s.portIn s.bc).1 :: .input s.bc (s.portIn s.bc).1 :: s.trace ∧
    t.pc = (if repeats = true ∧ t.b ≠ 0 then s.pc - 2 else s.pc) ∧
    t = { s with b := t.b, h := t.h, l := t.l, f := t.f, pc := t.pc, mem := t.mem,
                 dataIn := t.dataIn, draws := t.draws, trace := t.trace }

/-- i writes the byte at HL to the port B - 1 : C, moves HL by step and counts B down; Z says that B is 0; memory is
unchanged; a repeating form goes back to its own first byte unless B is 0. -/
def Outputs (i : Instr) (s : State) (step : Word) (repeats : Bool) : Prop :=
  ∃ t, exec i s = .next t ∧ t.hl = s.hl + step ∧ t.b = s.b - 1 ∧ (t.f.z = true ↔ t.b = 0) ∧
    t.trace = .output (joinBytes t.b s.c) (s.dataAt s.hl).1 :: .memRead s.hl (s.dataAt s.hl).1 :: s.trace ∧
    t.pc = (if repeats = true ∧ t.b ≠ 0 then s.pc - 2 else s.pc) ∧
    t = { s with b := t.b, h := t.h, l := t.l, f := t.f, pc := t.pc,
                 dataIn := t.dataIn, draws := t.draws, trace := t.trace }

end Sys2Proof.Machine

open Sys2Proof Sys2Proof.Machine

/-! Encoding. -/

/-- Decoding the encoding of a well-formed instruction, whatever follows it, gives the instruction and leaves what
follows (spec/30_encoding.md R128). -/
def Obligations.DecodeOfEncode : Prop :=
  ∀ (i : Instr) (rest : List Byte), WellFormed i = true → decode (encode i ++ rest) = .ok (i, rest)

/-- Whatever decodes is a well-formed instruction, and the bytes used are its encoding: no two byte sequences are one
instruction (spec/30_encoding.md R128: exactly one row matches an assigned sequence). -/
def Obligations.EncodeOfDecode : Prop :=
  ∀ (bytes : List Byte) (i : Instr) (rest : List Byte),
    decode bytes = .ok (i, rest) → WellFormed i = true ∧ bytes = encode i ++ rest

/-- A word of each page, written out from the spec's encoding of it. -/
def Obligations.WrittenWordsDecode : Prop :=
  decode [0x41] = .ok (.ldRR .b .c, []) ∧
  decode [0xDD, 0x36, 0x05, 0x2A] = .ok (.ldAtIxN 0x05 0x2A, []) ∧
  decode [0x31, 0x34, 0x12] = .ok (.ldDdNn .sp 0x1234, []) ∧
  decode [0xED, 0xB0] = .ok (.ldir, []) ∧
  decode [0xFD, 0xBE, 0xFF] = .ok (.cpAtIy 0xFF, []) ∧
  decode [0xED, 0x5E] = .ok (.im2, []) ∧
  decode [0xED, 0x52] = .ok (.sbcHlSs .de, []) ∧
  decode [0xCB, 0x3F] = .ok (.srlR .a, []) ∧
  decode [0xFD, 0xCB, 0x02, 0x7E] = .ok (.bitBAtIy 7 0x02, []) ∧
  decode [0x28, 0xFE] = .ok (.jrZE 0xFE, []) ∧
  decode [0xFF] = .ok (.rstP 0x38, []) ∧
  decode [0xED, 0x41] = .ok (.outCR .b, [])

/-- A step that fetches an unassigned encoding is refused: bytes at PC, in RAM or ROM, that end where the decoder
rejects them (spec/30_encoding.md R129). -/
def Obligations.StepRefusesUnassigned : Prop :=
  ∀ (s : State) (bytes : List Byte) (why : Reject),
    Alone s → s.takeInput.pins.reset = .inactive → s.takeInput.pins.busreqLow = false → s.halted = false →
    decode bytes = .error why → why ≠ .truncated →
    (∀ n < bytes.length, decode (bytes.take n) = .error .truncated) →
    (∀ n v, bytes[n]? = some v → Holds s (s.pc + BitVec.ofNat 16 n) v) →
    step s = .refused (.unassigned why)

/-- When the bytes at PC decode to an instruction, a step runs it: it is exec of that instruction and then the interrupt
sampling point, from s with the step's inputs taken, PC past the instruction, R advanced once for each M1 cycle and
ei_shadow cleared (spec/60_exceptions.md R486; spec/00_scope.md R9; spec/10_state.md R27). -/
def Obligations.StepRunsDecoded : Prop :=
  ∀ (s : State) (bytes : List Byte) (i : Instr),
    Alone s → s.takeInput.pins.reset = .inactive → s.takeInput.pins.busreqLow = false → s.halted = false →
    decode bytes = .ok (i, []) →
    (∀ n v, bytes[n]? = some v → Holds s (s.pc + BitVec.ofNat 16 n) v) →
    ∃ t u, exec i t = .next u ∧ step s = (u.sample (isLdAIR i)).result ∧
      t = { s.takeInput with
              pc := s.pc + BitVec.ofNat 16 bytes.length, r := Nat.iterate inc7 i.m1Cycles s.r, eiShadow := false,
              busGranted := false, trace := t.trace }

/-! Memory, the bus and the stack. -/

/-- Memory: a read gives what was last stored at that address and nothing else changes; stores keep the canonical
form, in which memories that read alike are the same list (spec/20_memory.md R70; log entry 1). -/
def Obligations.MemoryReadAfterWrite : Prop :=
  (∀ (m : Memory) (a b : Word) (v : Byte),
    (m.store a.toNat v).byteAt b.toNat = if b = a then some v else m.byteAt b.toNat) ∧
  (∀ (m : Memory) (a : Word) (v : Byte), m.wf = true → (m.store a.toNat v).wf = true) ∧
  (∀ m n : Memory, m.wf = true → n.wf = true → (∀ a : Nat, m.byteAt a = n.byteAt a) → m = n)

/-- What a read of an address gives, and that a known byte is read without any change of state; a device's byte comes
from the outside, and so does that of a port address at which a peripheral answers, while one at which none answers gives
a free byte; a word is two such reads, the low byte at the lower address (spec/20_memory.md R72, R74, R77, R84). That a
port address takes the first entry of the I/O map that decodes it, and that one answers where no entry does, is the
model's (log entry 2). -/
def Obligations.DataBusReads : Prop :=
  (∀ (s : State) (a : Word) (v : Byte), Holds s a v → s.dataAt a = (v, s)) ∧
  (∀ (s : State) (a : Word), s.kindAt a = .device → s.dataAt a = s.external) ∧
  (∀ (s : State) (v : Byte) (rest : List (Option Byte)), s.dataIn = some v :: rest →
    s.external = (v, { s with dataIn := rest })) ∧
  (∀ (s : State) (p : Word), s.portIn p = if s.portAnswers p then s.external else s.draw) ∧
  (∀ (s : State) (g : PortDecode) (gs : List PortDecode) (p : Word), s.ioMap = g :: gs → p &&& g.mask = g.value →
    s.portAnswers p = g.answers) ∧
  (∀ (s : State) (g : PortDecode) (gs : List PortDecode) (p : Word), s.ioMap = g :: gs → p &&& g.mask ≠ g.value →
    s.portAnswers p = State.portAnswers { s with ioMap := gs } p) ∧
  (∀ (s : State) (p : Word), s.ioMap = [] → s.portAnswers p = true) ∧
  (∀ (s : State) (a : Word) (lo hi : Byte), Alone s → Holds s a lo → Holds s (a + 1) hi →
    (s.readWord a).1.toNat = 256 * hi.toNat + lo.toNat ∧
    (s.readWord a).2 = { s with trace := .memRead (a + 1) hi :: .memRead a lo :: s.trace })

/-- Push16 and Pop16: a push stores the high byte at SP - 1, then the low byte at SP - 2, and SP then addresses the low
byte; a pop reads the low byte at SP, then the high byte at SP + 1, and moves SP up by 2; all modulo 65536
(spec/20_memory.md R75, R76). -/
def Obligations.StackRules : Prop :=
  (∀ (s : State) (v : Word), Alone s → PushesTo s (s.push16 v) v s.pc) ∧
  (∀ (s : State) (lo hi : Byte), Alone s → Holds s s.sp lo → Holds s (s.sp + 1) hi →
    s.pop16.1.toNat = 256 * hi.toNat + lo.toNat ∧
    s.pop16.2 = { s with sp := s.sp + 2, trace := .memRead (s.sp + 1) hi :: .memRead s.sp lo :: s.trace })

/-- One increment of R: bits 6:0 count modulo 128, bit 7 is kept (spec/10_state.md R27); a refresh puts I : R before
the increment on the address bus (spec/20_memory.md R94). -/
def Obligations.RefreshCounter : Prop :=
  (∀ r : Byte, (inc7 r).toNat = 128 * (r.toNat / 128) + (r.toNat % 128 + 1) % 128) ∧
  (∀ s : State, Alone s → s.refreshCycle =
    { s with r := inc7 s.r, trace := .refresh (BitVec.ofNat 16 (256 * s.i.toNat + s.r.toNat)) :: s.trace })

/-- Sign and zero extension and parity, in integers (spec/00_scope.md R7, R8), with the parities R8 lists; and the
effective address that sign extension gives, (IX + d) mod 65536 with d signed, and its IY twin (spec/30_encoding.md R122;
spec/20_memory.md R85). -/
def Obligations.ExtensionAndParity : Prop :=
  (∀ v : Byte,
    (sext16 v).toNat = (if v.getLsbD 7 then v.toNat + 0xFF00 else v.toNat) ∧ (sext16 v).toInt = v.toInt ∧
    (zext16 v).toNat = v.toNat ∧ (parity8 v = true ↔ EvenOnes v)) ∧
  parity8 0x00 = true ∧ parity8 0x01 = false ∧ parity8 0x03 = true ∧ parity8 0xFF = true ∧
  (∀ (s : State) (d : Byte),
    ((s.eaIX d).toNat : Int) = ((s.ix.toNat : Int) + d.toInt) % 65536 ∧
    ((s.eaIY d).toNat : Int) = ((s.iy.toNat : Int) + d.toInt) % 65536)

/-- F as a byte: the place of each flag (spec/10_state.md Table R28), and that a byte read into F and written back is
the same byte (R29 (a)). -/
def Obligations.FlagByteLayout : Prop :=
  (∀ f : FlagReg,
    f.toByte.getLsbD 7 = f.s ∧ f.toByte.getLsbD 6 = f.z ∧ f.toByte.getLsbD 5 = f.f5 ∧ f.toByte.getLsbD 4 = f.h ∧
    f.toByte.getLsbD 3 = f.f3 ∧ f.toByte.getLsbD 2 = f.pv ∧ f.toByte.getLsbD 1 = f.n ∧ f.toByte.getLsbD 0 = f.c) ∧
  (∀ v : Byte, (FlagReg.ofByte v).toByte = v) ∧ (∀ f : FlagReg, FlagReg.ofByte f.toByte = f)

/-- The eight conditions by their code, each a test of one flag; the conditional relative jumps are the four opcodes
that test the first four of them (spec/10_state.md R36). -/
def Obligations.ConditionCodes : Prop :=
  (∀ f : Flags,
    condHolds f (decodeCond 0) = !f.z ∧ condHolds f (decodeCond 1) = f.z ∧
    condHolds f (decodeCond 2) = !f.c ∧ condHolds f (decodeCond 3) = f.c ∧
    condHolds f (decodeCond 4) = !f.pv ∧ condHolds f (decodeCond 5) = f.pv ∧
    condHolds f (decodeCond 6) = !f.s ∧ condHolds f (decodeCond 7) = f.s) ∧
  (∀ (s : State) (e : Byte),
    ∀ p ∈ [((0x20 : Byte), 0, Instr.jrNzE e), (0x28, 1, .jrZE e), (0x30, 2, .jrNcE e), (0x38, 3, .jrCE e)],
      decode [p.1, e] = .ok (p.2.2, []) ∧
      exec p.2.2 s = .next (if condHolds s.f.toFlags (decodeCond p.2.1) then s.jumpRel e else s))

/-! 8-bit loads (spec/40_load8.md). -/

/-- LD r,r' and LD r,n set the register, and nothing else (R150, R151). -/
def Obligations.LoadRegister : Prop :=
  ∀ (s : State) (r : R8), (∀ q, SetsReg8 (.ldRR r q) s r (s.reg8 q)) ∧ (∀ n, SetsReg8 (.ldRN r n) s r n)

/-- The loads of a register from memory: one read at the address formed from the registers before the load
(R152 to R154, R161 to R163). -/
def Obligations.LoadRegisterFromMemory : Prop :=
  ∀ (s : State) (r : R8) (d : Byte) (nn : Word), Alone s →
    LoadsReg8 (.ldRAtHl r) s r s.hl ∧ LoadsReg8 (.ldRAtIx r d) s r (s.eaIX d) ∧ LoadsReg8 (.ldRAtIy r d) s r (s.eaIY d) ∧
    LoadsReg8 .ldAAtBc s .a s.bc ∧ LoadsReg8 .ldAAtDe s .a s.de ∧ LoadsReg8 (.ldAAtNn nn) s .a nn

/-- The stores of a register or an immediate to memory: one write at the address the operand forms
(R155 to R160, R164 to R166). -/
def Obligations.StoreToMemory : Prop :=
  ∀ (s : State) (r : R8) (d n : Byte) (nn : Word), Alone s →
    StoresReg8 (.ldAtHlR r) s s.hl (s.reg8 r) ∧ StoresReg8 (.ldAtIxR d r) s (s.eaIX d) (s.reg8 r) ∧
    StoresReg8 (.ldAtIyR d r) s (s.eaIY d) (s.reg8 r) ∧ StoresReg8 (.ldAtHlN n) s s.hl n ∧
    StoresReg8 (.ldAtIxN d n) s (s.eaIX d) n ∧ StoresReg8 (.ldAtIyN d n) s (s.eaIY d) n ∧
    StoresReg8 .ldAtBcA s s.bc s.a ∧ StoresReg8 .ldAtDeA s s.de s.a ∧ StoresReg8 (.ldAtNnA nn) s nn s.a

/-- LD A,I and LD A,R copy the register and IFF2 into P/V; LD I,A and LD R,A write all eight bits and no flag
(R167 to R170). -/
def Obligations.LoadInterruptAndRefresh : Prop :=
  ∀ s : State,
    (∃ t, exec .ldAI s = .next t ∧ t.a = s.i ∧ LoadedRule s.f.toFlags s.i (s.iff2 = true) t.f.toFlags ∧
      t = { s with a := t.a, f := t.f, draws := t.draws }) ∧
    (∃ t, exec .ldAR s = .next t ∧ t.a = s.r ∧ LoadedRule s.f.toFlags s.r (s.iff2 = true) t.f.toFlags ∧
      t = { s with a := t.a, f := t.f, draws := t.draws }) ∧
    (∃ t, exec .ldIA s = .next t ∧ t.i = s.a ∧ t = { s with i := t.i }) ∧
    (∃ t, exec .ldRA s = .next t ∧ t.r = s.a ∧ t = { s with r := t.r })

/-! 16-bit loads (spec/41_load16.md). -/

/-- The loads of a register pair from an immediate or from HL, IX, IY (R180 to R182, R191 to R193). -/
def Obligations.LoadPair : Prop :=
  ∀ (s : State) (nn : Word),
    (∀ dd, ∃ t, exec (.ldDdNn dd nn) s = .next t ∧ (∀ q, t.regDD q = if q = dd then nn else s.regDD q) ∧
      t = { s with b := t.b, c := t.c, d := t.d, e := t.e, h := t.h, l := t.l, sp := t.sp }) ∧
    (∃ t, exec (.ldIxNn nn) s = .next t ∧ t.ix = nn ∧ t = { s with ix := t.ix }) ∧
    (∃ t, exec (.ldIyNn nn) s = .next t ∧ t.iy = nn ∧ t = { s with iy := t.iy }) ∧
    (∃ t, exec .ldSpHl s = .next t ∧ t.sp = s.hl ∧ t = { s with sp := t.sp }) ∧
    (∃ t, exec .ldSpIx s = .next t ∧ t.sp = s.ix ∧ t = { s with sp := t.sp }) ∧
    (∃ t, exec .ldSpIy s = .next t ∧ t.sp = s.iy ∧ t = { s with sp := t.sp })

/-- The loads of a register pair from memory: the word at nn, low byte first; memory is unchanged (R183 to R186). -/
def Obligations.LoadPairFromMemory : Prop :=
  ∀ (s : State) (nn : Word), Alone s →
    (∃ t, exec (.ldHlAtNn nn) s = .next t ∧ t.hl = (s.readWord nn).1 ∧
      t = { s with h := t.h, l := t.l, dataIn := t.dataIn, draws := t.draws, trace := t.trace }) ∧
    (∀ dd, ∃ t, exec (.ldDdAtNn dd nn) s = .next t ∧
      (∀ q, t.regDD q = if q = dd then (s.readWord nn).1 else s.regDD q) ∧
      t = { s with b := t.b, c := t.c, d := t.d, e := t.e, h := t.h, l := t.l, sp := t.sp,
                   dataIn := t.dataIn, draws := t.draws, trace := t.trace }) ∧
    (∃ t, exec (.ldIxAtNn nn) s = .next t ∧ t.ix = (s.readWord nn).1 ∧
      t = { s with ix := t.ix, dataIn := t.dataIn, draws := t.draws, trace := t.trace }) ∧
    (∃ t, exec (.ldIyAtNn nn) s = .next t ∧ t.iy = (s.readWord nn).1 ∧
      t = { s with iy := t.iy, dataIn := t.dataIn, draws := t.draws, trace := t.trace })

/-- The stores of a register pair to memory: the low byte at nn, the high byte at nn + 1 (R187 to R190). -/
def Obligations.StorePair : Prop :=
  ∀ (s : State) (nn : Word), Alone s →
    StoresWord (.ldAtNnHl nn) s nn s.hl ∧ (∀ dd, StoresWord (.ldAtNnDd nn dd) s nn (s.regDD dd)) ∧
    StoresWord (.ldAtNnIx nn) s nn s.ix ∧ StoresWord (.ldAtNnIy nn) s nn s.iy

/-- PUSH stores its pair below SP and moves SP; POP takes the word at SP into its pair, POP AF all eight bits of F, and
leaves memory (R194 to R199). -/
def Obligations.PushAndPop : Prop :=
  ∀ s : State, Alone s →
    (∀ qq, ∃ t, exec (.pushQq qq) s = .next t ∧ PushesTo s t (s.regQQ qq) s.pc) ∧
    (∃ t, exec .pushIx s = .next t ∧ PushesTo s t s.ix s.pc) ∧
    (∃ t, exec .pushIy s = .next t ∧ PushesTo s t s.iy s.pc) ∧
    (∀ qq, ∃ t, exec (.popQq qq) s = .next t ∧ t.sp = s.sp + 2 ∧
      (∀ q, t.regQQ q = if q = qq then s.pop16.1 else s.regQQ q) ∧
      t = { s with a := t.a, f := t.f, b := t.b, c := t.c, d := t.d, e := t.e, h := t.h, l := t.l, sp := t.sp,
                   dataIn := t.dataIn, draws := t.draws, trace := t.trace }) ∧
    (∃ t, exec .popIx s = .next t ∧ t.sp = s.sp + 2 ∧ t.ix = s.pop16.1 ∧
      t = { s with ix := t.ix, sp := t.sp, dataIn := t.dataIn, draws := t.draws, trace := t.trace }) ∧
    (∃ t, exec .popIy s = .next t ∧ t.sp = s.sp + 2 ∧ t.iy = s.pop16.1 ∧
      t = { s with iy := t.iy, sp := t.sp, dataIn := t.dataIn, draws := t.draws, trace := t.trace })

/-- Over a stack in RAM a pair pushed and popped into a pair comes back whole, the eight bits of F too, and a subroutine
returns behind its call; SP is back where it was (spec/10_state.md R29 (a); spec/20_memory.md R75, R76). -/
def Obligations.StackRoundTrips : Prop :=
  ∀ s : State, Alone s → s.kindAt (s.sp - 1) = .ram → s.kindAt (s.sp - 2) = .ram →
    (∀ p q : RegQQ, ∃ t u, exec (.pushQq p) s = .next t ∧ exec (.popQq q) t = .next u ∧ u.sp = s.sp ∧
      ∀ k, u.regQQ k = if k = q then s.regQQ p else s.regQQ k) ∧
    (∀ nn, ∃ t u, exec (.callNn nn) s = .next t ∧ t.pc = nn ∧ exec .ret t = .next u ∧ u.pc = s.pc ∧ u.sp = s.sp)

/-! Exchange, block transfer and search (spec/42_exchange_block.md). -/

/-- The register exchanges swap what they name and nothing else, and done twice change nothing (R210 to R212). -/
def Obligations.ExchangeRegisters : Prop :=
  ∀ s : State,
    (∃ t, exec .exDeHl s = .next t ∧ t.de = s.hl ∧ t.hl = s.de ∧
      t = { s with d := t.d, e := t.e, h := t.h, l := t.l } ∧ exec .exDeHl t = .next s) ∧
    (∃ t, exec .exAf s = .next t ∧ t.a = s.aAlt ∧ t.f = s.fAlt ∧ t.aAlt = s.a ∧ t.fAlt = s.f ∧
      t = { s with a := t.a, f := t.f, aAlt := t.aAlt, fAlt := t.fAlt } ∧ exec .exAf t = .next s) ∧
    (∃ t, exec .exx s = .next t ∧ t.b = s.bAlt ∧ t.c = s.cAlt ∧ t.d = s.dAlt ∧ t.e = s.eAlt ∧ t.h = s.hAlt ∧
      t.l = s.lAlt ∧ t.bAlt = s.b ∧ t.cAlt = s.c ∧ t.dAlt = s.d ∧ t.eAlt = s.e ∧ t.hAlt = s.h ∧ t.lAlt = s.l ∧
      t = { s with b := t.b, c := t.c, d := t.d, e := t.e, h := t.h, l := t.l, bAlt := t.bAlt, cAlt := t.cAlt,
                   dAlt := t.dAlt, eAlt := t.eAlt, hAlt := t.hAlt, lAlt := t.lAlt } ∧ exec .exx t = .next s)

/-- EX (SP) with HL, IX and IY: the pair takes the word at SP, and SP, which stays, holds the pair's old bytes
(R213 to R215). -/
def Obligations.ExchangeStackTop : Prop :=
  ∀ s : State, Alone s →
    (∃ t, exec .exSpHl s = .next t ∧ t.hl = (s.readWord s.sp).1 ∧ StoresAt s t [(s.sp, s.l), (s.sp + 1, s.h)] ∧
      t = { s with h := t.h, l := t.l, mem := t.mem, dataIn := t.dataIn, draws := t.draws, trace := t.trace }) ∧
    (∃ t, exec .exSpIx s = .next t ∧ t.ix = (s.readWord s.sp).1 ∧
      StoresAt s t [(s.sp, loByte s.ix), (s.sp + 1, hiByte s.ix)] ∧
      t = { s with ix := t.ix, mem := t.mem, dataIn := t.dataIn, draws := t.draws, trace := t.trace }) ∧
    (∃ t, exec .exSpIy s = .next t ∧ t.iy = (s.readWord s.sp).1 ∧
      StoresAt s t [(s.sp, loByte s.iy), (s.sp + 1, hiByte s.iy)] ∧
      t = { s with iy := t.iy, mem := t.mem, dataIn := t.dataIn, draws := t.draws, trace := t.trace })

/-- LDI, LDIR, LDD, LDDR (R216 to R219; spec/60_exceptions.md R460). -/
def Obligations.BlockTransfer : Prop :=
  ∀ s : State, Alone s →
    Transfers .ldi s 1 false ∧ Transfers .ldir s 1 true ∧ Transfers .ldd s (-1) false ∧ Transfers .lddr s (-1) true

/-- CPI, CPIR, CPD, CPDR (R220 to R223; spec/60_exceptions.md R460). -/
def Obligations.BlockSearch : Prop :=
  ∀ s : State, Alone s →
    Searches .cpi s 1 false ∧ Searches .cpir s 1 true ∧ Searches .cpd s (-1) false ∧ Searches .cpdr s (-1) true

/-! 8-bit arithmetic and logic (spec/43_arith8.md). -/

/-- The functions add8, sub8, and8, or8, xor8 of R230 to R232: the results and all six flags; P/V of a sum or
difference both as the signed overflow and as the rule computes it from the sign bits. -/
def Obligations.ArithmeticFunctions : Prop :=
  ∀ (x y : Byte) (c : Bool),
    SumRule x y c (add8 x y c).1 (add8 x y c).2 ∧ DiffRule x y c (sub8 x y c).1 (sub8 x y c).2 ∧
    ((add8 x y c).2.pv = true ↔ x.getLsbD 7 = y.getLsbD 7 ∧ (add8 x y c).1.getLsbD 7 ≠ x.getLsbD 7) ∧
    ((sub8 x y c).2.pv = true ↔ x.getLsbD 7 ≠ y.getLsbD 7 ∧ (sub8 x y c).1.getLsbD 7 ≠ x.getLsbD 7) ∧
    LogicRule (fun p q => p && q) true x y (and8 x y).1 (and8 x y).2 ∧
    LogicRule (fun p q => p || q) false x y (or8 x y).1 (or8 x y).2 ∧
    LogicRule (fun p q => p != q) false x y (xor8 x y).1 (xor8 x y).2

/-- The eight accumulator operations on a register and on an immediate byte (Table R233): A and F only. -/
def Obligations.AccumulatorOnValue : Prop :=
  ∀ (s : State) (r : R8) (n : Byte),
    AccOnValue 0 (.addAR r) s (s.reg8 r) ∧ AccOnValue 0 (.addAN n) s n ∧
    AccOnValue 1 (.adcAR r) s (s.reg8 r) ∧ AccOnValue 1 (.adcAN n) s n ∧
    AccOnValue 2 (.subR r) s (s.reg8 r) ∧ AccOnValue 2 (.subN n) s n ∧
    AccOnValue 3 (.sbcAR r) s (s.reg8 r) ∧ AccOnValue 3 (.sbcAN n) s n ∧
    AccOnValue 4 (.andR r) s (s.reg8 r) ∧ AccOnValue 4 (.andN n) s n ∧
    AccOnValue 5 (.xorR r) s (s.reg8 r) ∧ AccOnValue 5 (.xorN n) s n ∧
    AccOnValue 6 (.orR r) s (s.reg8 r) ∧ AccOnValue 6 (.orN n) s n ∧
    AccOnValue 7 (.cpR r) s (s.reg8 r) ∧ AccOnValue 7 (.cpN n) s n

/-- The eight accumulator operations on a byte in memory, at HL, IX + d and IY + d (Table R233): A and F only. -/
def Obligations.AccumulatorOnMemory : Prop :=
  ∀ (s : State) (d : Byte), Alone s →
    (AccOnByteAt 0 .addAAtHl s s.hl ∧ AccOnByteAt 0 (.addAAtIx d) s (s.eaIX d) ∧ AccOnByteAt 0 (.addAAtIy d) s (s.eaIY d)) ∧
    (AccOnByteAt 1 .adcAAtHl s s.hl ∧ AccOnByteAt 1 (.adcAAtIx d) s (s.eaIX d) ∧ AccOnByteAt 1 (.adcAAtIy d) s (s.eaIY d)) ∧
    (AccOnByteAt 2 .subAtHl s s.hl ∧ AccOnByteAt 2 (.subAtIx d) s (s.eaIX d) ∧ AccOnByteAt 2 (.subAtIy d) s (s.eaIY d)) ∧
    (AccOnByteAt 3 .sbcAAtHl s s.hl ∧ AccOnByteAt 3 (.sbcAAtIx d) s (s.eaIX d) ∧ AccOnByteAt 3 (.sbcAAtIy d) s (s.eaIY d)) ∧
    (AccOnByteAt 4 .andAtHl s s.hl ∧ AccOnByteAt 4 (.andAtIx d) s (s.eaIX d) ∧ AccOnByteAt 4 (.andAtIy d) s (s.eaIY d)) ∧
    (AccOnByteAt 5 .xorAtHl s s.hl ∧ AccOnByteAt 5 (.xorAtIx d) s (s.eaIX d) ∧ AccOnByteAt 5 (.xorAtIy d) s (s.eaIY d)) ∧
    (AccOnByteAt 6 .orAtHl s s.hl ∧ AccOnByteAt 6 (.orAtIx d) s (s.eaIX d) ∧ AccOnByteAt 6 (.orAtIy d) s (s.eaIY d)) ∧
    (AccOnByteAt 7 .cpAtHl s s.hl ∧ AccOnByteAt 7 (.cpAtIx d) s (s.eaIX d) ∧ AccOnByteAt 7 (.cpAtIy d) s (s.eaIY d))

/-- INC and DEC of a register and of a byte in memory: the sum or difference with 1, and every flag of it but C, which is
kept; in memory a read and then a write (R274 to R281). -/
def Obligations.IncDecByte : Prop :=
  ∀ (s : State) (r : R8) (d : Byte),
    (∃ t res fl, exec (.incR r) s = .next t ∧ SumRule (s.reg8 r) 1 false res fl ∧ OnlyReg8 s t r res ∧
      t.f.toFlags = { fl with c := s.f.c } ∧
      t = { s with a := t.a, b := t.b, c := t.c, d := t.d, e := t.e, h := t.h, l := t.l, f := t.f, draws := t.draws }) ∧
    (∃ t res fl, exec (.decR r) s = .next t ∧ DiffRule (s.reg8 r) 1 false res fl ∧ OnlyReg8 s t r res ∧
      t.f.toFlags = { fl with c := s.f.c } ∧
      t = { s with a := t.a, b := t.b, c := t.c, d := t.d, e := t.e, h := t.h, l := t.l, f := t.f, draws := t.draws }) ∧
    (Alone s →
      (∀ p ∈ [(Instr.incAtHl, s.hl), (.incAtIx d, s.eaIX d), (.incAtIy d, s.eaIY d)],
        ModifiesByteAt p.1 s p.2 fun v res g => ∃ fl, SumRule v 1 false res fl ∧ g = { fl with c := s.f.c }) ∧
      (∀ p ∈ [(Instr.decAtHl, s.hl), (.decAtIx d, s.eaIX d), (.decAtIy d, s.eaIY d)],
        ModifiesByteAt p.1 s p.2 fun v res g => ∃ fl, DiffRule v 1 false res fl ∧ g = { fl with c := s.f.c }))

/-! General purpose and CPU control (spec/44_general_cpu_control.md). -/

/-- DAA: the correction by H, the low digit, C and the value, added or subtracted by N; S, Z, P/V of the result, C set
or kept, N kept, H open (R290). -/
def Obligations.DecimalAdjust : Prop :=
  ∀ s : State, ∃ t, exec .daa s = .next t ∧
    (let corr : Nat := (if s.f.h = true ∨ 9 < s.a.toNat % 16 then 0x06 else 0) +
                       (if s.f.c = true ∨ 0x99 < s.a.toNat then 0x60 else 0)
     (t.a.toNat : Int) = (if s.f.n then (s.a.toNat : Int) - corr else (s.a.toNat : Int) + corr) % 256) ∧
    (t.f.s = true ↔ t.a.toInt < 0) ∧ (t.f.z = true ↔ t.a.toNat = 0) ∧ (t.f.pv = true ↔ EvenOnes t.a) ∧
    t.f.n = s.f.n ∧ (t.f.c = true ↔ s.f.c = true ∨ 0x99 < s.a.toNat) ∧
    t = { s with a := t.a, f := t.f, draws := t.draws }

/-- Packed-BCD arithmetic: ADC or SBC of two packed-BCD bytes and then DAA give the decimal sum or difference with
carry, modulo 100, and the decimal carry or borrow (R290 with R235, R240, R245, R250). -/
def Obligations.DecimalArithmetic : Prop :=
  ∀ (s : State) (n : Byte), PackedDecimal s.a → PackedDecimal n →
    (∃ t u, exec (.adcAN n) s = .next t ∧ exec .daa t = .next u ∧ PackedDecimal u.a ∧
      decimalOf u.a = (decimalOf s.a + decimalOf n + s.f.c.toNat) % 100 ∧
      (u.f.c = true ↔ 100 ≤ decimalOf s.a + decimalOf n + s.f.c.toNat)) ∧
    (∃ t u, exec (.sbcAN n) s = .next t ∧ exec .daa t = .next u ∧ PackedDecimal u.a ∧
      decimalOf u.a = (decimalOf s.a + 100 - decimalOf n - s.f.c.toNat) % 100 ∧
      (u.f.c = true ↔ decimalOf s.a < decimalOf n + s.f.c.toNat))

/-- CPL, NEG, CCF and SCF: A and F only (R291 to R294). -/
def Obligations.AccumulatorAndCarry : Prop :=
  ∀ s : State,
    (∃ t, exec .cpl s = .next t ∧ t.a.toNat = 255 - s.a.toNat ∧
      t.f.toFlags = { s.f.toFlags with h := true, n := true } ∧ t = { s with a := t.a, f := t.f, draws := t.draws }) ∧
    (∃ t, exec .neg s = .next t ∧ DiffRule 0 s.a false t.a t.f.toFlags ∧
      t = { s with a := t.a, f := t.f, draws := t.draws }) ∧
    (∃ t, exec .ccf s = .next t ∧ t.f.toFlags = { s.f.toFlags with h := s.f.c, n := false, c := !s.f.c } ∧
      t = { s with f := t.f, draws := t.draws }) ∧
    (∃ t, exec .scf s = .next t ∧ t.f.toFlags = { s.f.toFlags with h := false, n := false, c := true } ∧
      t = { s with f := t.f, draws := t.draws })

/-- NOP changes nothing; DI clears and EI sets both flip-flops, and EI holds off INT at its own end, so that what was
pending is not accepted there; IM sets the mode (R295, R297 to R301; spec/60_exceptions.md R455). -/
def Obligations.ControlInstructions : Prop :=
  ∀ s : State,
    (∃ t, exec .nop s = .next t ∧ t = s) ∧
    (∃ t, exec .di s = .next t ∧ t.iff1 = false ∧ t.iff2 = false ∧ t = { s with iff1 := t.iff1, iff2 := t.iff2 } ∧
      (s.nmiPending = false → t.sample false = .next t)) ∧
    (∃ t, exec .ei s = .next t ∧ t.iff1 = true ∧ t.iff2 = true ∧ t.eiShadow = true ∧
      t = { s with iff1 := t.iff1, iff2 := t.iff2, eiShadow := t.eiShadow } ∧
      (s.nmiPending = false → t.sample false = .next t)) ∧
    (∃ t, exec .im0 s = .next t ∧ t.im = .mode0 ∧ t = { s with im := t.im }) ∧
    (∃ t, exec .im1 s = .next t ∧ t.im = .mode1 ∧ t = { s with im := t.im }) ∧
    (∃ t, exec .im2 s = .next t ∧ t.im = .mode2 ∧ t = { s with im := t.im })

/-- HALT enters the halt state; MS1 and MS2 at that moment select what the clock does (R296; spec/60_exceptions.md
Table R466). -/
def Obligations.HaltEntersMode : Prop :=
  ∀ s : State, ∃ t, exec .halt s = .next t ∧ t.halted = true ∧
    (t.clockState = .running ↔ s.pins.ms1 = true ∧ s.pins.ms2 = true) ∧
    (t.clockState = .idle1 ↔ s.pins.ms1 = false ∧ s.pins.ms2 = false) ∧
    (t.clockState = .idle2 ↔ s.pins.ms1 = false ∧ s.pins.ms2 = true) ∧
    (t.clockState = .stopped ↔ s.pins.ms1 = true ∧ s.pins.ms2 = false) ∧
    t = { s with halted := t.halted, clockState := t.clockState }

/-! 16-bit arithmetic (spec/45_arith16.md). -/

/-- ADD HL,ss; ADD IX,pp; ADD IY,rr: the sum; H, N and C of it; S, Z and P/V kept. ADC HL,ss and SBC HL,ss: HL and all
six flags (R311 to R315). -/
def Obligations.AddSubPairs : Prop :=
  ∀ s : State,
    (∀ dd, ∃ t fl, exec (.addHlSs dd) s = .next t ∧ SumRule s.hl (s.regDD dd) false t.hl fl ∧
      t.f.toFlags = { s.f.toFlags with h := fl.h, n := false, c := fl.c } ∧
      t = { s with h := t.h, l := t.l, f := t.f, draws := t.draws }) ∧
    (∀ pp, ∃ t fl, exec (.addIxPp pp) s = .next t ∧ SumRule s.ix (s.regPP pp) false t.ix fl ∧
      t.f.toFlags = { s.f.toFlags with h := fl.h, n := false, c := fl.c } ∧
      t = { s with ix := t.ix, f := t.f, draws := t.draws }) ∧
    (∀ rr, ∃ t fl, exec (.addIyRr rr) s = .next t ∧ SumRule s.iy (s.regRR rr) false t.iy fl ∧
      t.f.toFlags = { s.f.toFlags with h := fl.h, n := false, c := fl.c } ∧
      t = { s with iy := t.iy, f := t.f, draws := t.draws }) ∧
    (∀ dd, ∃ t, exec (.adcHlSs dd) s = .next t ∧ SumRule s.hl (s.regDD dd) s.f.c t.hl t.f.toFlags ∧
      t = { s with h := t.h, l := t.l, f := t.f, draws := t.draws }) ∧
    (∀ dd, ∃ t, exec (.sbcHlSs dd) s = .next t ∧ DiffRule s.hl (s.regDD dd) s.f.c t.hl t.f.toFlags ∧
      t = { s with h := t.h, l := t.l, f := t.f, draws := t.draws })

/-- The 16-bit INC and DEC: modulo 65536, no flag (R316 to R321). -/
def Obligations.IncDecPairs : Prop :=
  ∀ s : State,
    (∀ dd, ∃ t, exec (.incSs dd) s = .next t ∧ (t.regDD dd).toNat = ((s.regDD dd).toNat + 1) % 65536 ∧
      (∀ q, q ≠ dd → t.regDD q = s.regDD q) ∧
      t = { s with b := t.b, c := t.c, d := t.d, e := t.e, h := t.h, l := t.l, sp := t.sp }) ∧
    (∀ dd, ∃ t, exec (.decSs dd) s = .next t ∧ (t.regDD dd).toNat = ((s.regDD dd).toNat + 65535) % 65536 ∧
      (∀ q, q ≠ dd → t.regDD q = s.regDD q) ∧
      t = { s with b := t.b, c := t.c, d := t.d, e := t.e, h := t.h, l := t.l, sp := t.sp }) ∧
    (∃ t, exec .incIx s = .next t ∧ t.ix.toNat = (s.ix.toNat + 1) % 65536 ∧ t = { s with ix := t.ix }) ∧
    (∃ t, exec .incIy s = .next t ∧ t.iy.toNat = (s.iy.toNat + 1) % 65536 ∧ t = { s with iy := t.iy }) ∧
    (∃ t, exec .decIx s = .next t ∧ t.ix.toNat = (s.ix.toNat + 65535) % 65536 ∧ t = { s with ix := t.ix }) ∧
    (∃ t, exec .decIy s = .next t ∧ t.iy.toNat = (s.iy.toNat + 65535) % 65536 ∧ t = { s with iy := t.iy })

/-! Rotates and shifts (spec/46_rotate_shift.md). -/

/-- RLCA, RRCA, RLA and RRA: A by Table R330, and H, N and C only. The seven CB-prefixed operations on a register: the
register by Table R330 and F by R331 (R331 to R336, R340, R344, R348, R352, R356, R360). -/
def Obligations.RotateAndShiftRegister : Prop :=
  ∀ (s : State) (r : R8),
    (∀ p ∈ [(0, Instr.rlca), (1, .rrca), (2, .rla), (3, .rra)],
      ∃ t, exec p.2 s = .next t ∧ ShiftRule p.1 s.a s.f.c t.a t.f.c ∧
        t.f.toFlags = { s.f.toFlags with h := false, n := false, c := t.f.c } ∧
        t = { s with a := t.a, f := t.f, draws := t.draws }) ∧
    (∀ p ∈ [(0, Instr.rlcR r), (1, .rrcR r), (2, .rlR r), (3, .rrR r), (4, .slaR r), (5, .sraR r), (7, .srlR r)],
      ∃ t res, exec p.2 s = .next t ∧ ShiftRule p.1 (s.reg8 r) s.f.c res t.f.c ∧
        ShiftFlagsRule res t.f.c t.f.toFlags ∧ OnlyReg8 s t r res ∧
        t = { s with a := t.a, b := t.b, c := t.c, d := t.d, e := t.e, h := t.h, l := t.l, f := t.f, draws := t.draws })

/-- The seven CB-prefixed operations on a byte in memory, at HL, IX + d and IY + d: a read, a write, and F by Table R330
and R331. -/
def Obligations.ShiftMemory : Prop :=
  ∀ (s : State) (d : Byte), Alone s →
    (∀ p ∈ [(0, Instr.rlcAtHl), (1, .rrcAtHl), (2, .rlAtHl), (3, .rrAtHl), (4, .slaAtHl), (5, .sraAtHl), (7, .srlAtHl)],
      ModifiesByteAt p.2 s s.hl fun v res g => ShiftRule p.1 v s.f.c res g.c ∧ ShiftFlagsRule res g.c g) ∧
    (∀ p ∈ [(0, Instr.rlcAtIx d), (1, .rrcAtIx d), (2, .rlAtIx d), (3, .rrAtIx d), (4, .slaAtIx d), (5, .sraAtIx d),
            (7, .srlAtIx d)],
      ModifiesByteAt p.2 s (s.eaIX d) fun v res g => ShiftRule p.1 v s.f.c res g.c ∧ ShiftFlagsRule res g.c g) ∧
    (∀ p ∈ [(0, Instr.rlcAtIy d), (1, .rrcAtIy d), (2, .rlAtIy d), (3, .rrAtIy d), (4, .slaAtIy d), (5, .sraAtIy d),
            (7, .srlAtIy d)],
      ModifiesByteAt p.2 s (s.eaIY d) fun v res g => ShiftRule p.1 v s.f.c res g.c ∧ ShiftFlagsRule res g.c g)

/-- RLD and RRD: the three digits A[3:0], (HL)[7:4], (HL)[3:0] rotate; A[7:4] stays; the flags are those of the new A
(R364, R365). -/
def Obligations.RotateDigits : Prop :=
  ∀ s : State, Alone s →
    (∃ t res, exec .rld s = .next t ∧ StoresAt s t [(s.hl, res)] ∧
      res.toNat = 16 * ((s.dataAt s.hl).1.toNat % 16) + s.a.toNat % 16 ∧
      t.a.toNat = 16 * (s.a.toNat / 16) + (s.dataAt s.hl).1.toNat / 16 ∧
      LoadedRule s.f.toFlags t.a (EvenOnes t.a) t.f.toFlags ∧
      t = { s with a := t.a, f := t.f, mem := t.mem, dataIn := t.dataIn, draws := t.draws, trace := t.trace }) ∧
    (∃ t res, exec .rrd s = .next t ∧ StoresAt s t [(s.hl, res)] ∧
      res.toNat = 16 * (s.a.toNat % 16) + (s.dataAt s.hl).1.toNat / 16 ∧
      t.a.toNat = 16 * (s.a.toNat / 16) + (s.dataAt s.hl).1.toNat % 16 ∧
      LoadedRule s.f.toFlags t.a (EvenOnes t.a) t.f.toFlags ∧
      t = { s with a := t.a, f := t.f, mem := t.mem, dataIn := t.dataIn, draws := t.draws, trace := t.trace })

/-! Bits (spec/47_bit.md). -/

/-- BIT: Z is the complement of the bit, H set, N reset, C kept, S and P/V open; nothing is written (R380 to R383). -/
def Obligations.TestBit : Prop :=
  ∀ (s : State) (b : Nat) (r : R8) (d : Byte),
    (∃ t, exec (.bitBR b r) s = .next t ∧ (t.f.z = true ↔ (s.reg8 r).getLsbD b = false) ∧ t.f.h = true ∧
      t.f.n = false ∧ t.f.c = s.f.c ∧ t = { s with f := t.f, draws := t.draws }) ∧
    (Alone s → ∀ p ∈ [(Instr.bitBAtHl b, s.hl), (.bitBAtIx b d, s.eaIX d), (.bitBAtIy b d, s.eaIY d)],
      ∃ t, exec p.1 s = .next t ∧ (t.f.z = true ↔ (s.dataAt p.2).1.getLsbD b = false) ∧ t.f.h = true ∧
        t.f.n = false ∧ t.f.c = s.f.c ∧ t.trace = .memRead p.2 (s.dataAt p.2).1 :: s.trace ∧
        t = { s with f := t.f, dataIn := t.dataIn, draws := t.draws, trace := t.trace })

/-- SET and RES: the bit b, no other bit, no flag; in memory a read and then a write (R384 to R391). -/
def Obligations.SetAndResetBit : Prop :=
  ∀ (s : State) (b : Nat) (r : R8) (d : Byte),
    (∃ v, (∀ k < 8, v.getLsbD k = if k = b then true else (s.reg8 r).getLsbD k) ∧ SetsReg8 (.setBR b r) s r v) ∧
    (∃ v, (∀ k < 8, v.getLsbD k = if k = b then false else (s.reg8 r).getLsbD k) ∧ SetsReg8 (.resBR b r) s r v) ∧
    (Alone s →
      (∀ p ∈ [(Instr.setBAtHl b, s.hl), (.setBAtIx b d, s.eaIX d), (.setBAtIy b d, s.eaIY d)],
        ∃ t v, exec p.1 s = .next t ∧ (∀ k < 8, v.getLsbD k = if k = b then true else (s.dataAt p.2).1.getLsbD k) ∧
          StoresAt s t [(p.2, v)] ∧ t.trace = .memWrite p.2 v :: .memRead p.2 (s.dataAt p.2).1 :: s.trace ∧
          t = { s with mem := t.mem, dataIn := t.dataIn, draws := t.draws, trace := t.trace }) ∧
      (∀ p ∈ [(Instr.resBAtHl b, s.hl), (.resBAtIx b d, s.eaIX d), (.resBAtIy b d, s.eaIY d)],
        ∃ t v, exec p.1 s = .next t ∧ (∀ k < 8, v.getLsbD k = if k = b then false else (s.dataAt p.2).1.getLsbD k) ∧
          StoresAt s t [(p.2, v)] ∧ t.trace = .memWrite p.2 v :: .memRead p.2 (s.dataAt p.2).1 :: s.trace ∧
          t = { s with mem := t.mem, dataIn := t.dataIn, draws := t.draws, trace := t.trace }))

/-! Jumps, calls and returns (spec/48_jump_call_return.md). -/

/-- The absolute jumps: PC alone changes, to nn or to the register, and for JP cc only if the condition holds
(R400, R401, R407 to R409). -/
def Obligations.JumpAbsolute : Prop :=
  ∀ (s : State) (nn : Word) (cc : Cond),
    (∃ t, exec (.jpNn nn) s = .next t ∧ t.pc = nn ∧ t = { s with pc := t.pc }) ∧
    (∃ t, exec (.jpCcNn cc nn) s = .next t ∧ t.pc = (if condHolds s.f.toFlags cc then nn else s.pc) ∧
      t = { s with pc := t.pc }) ∧
    (∃ t, exec .jpHl s = .next t ∧ t.pc.toNat = 256 * s.h.toNat + s.l.toNat ∧ t = { s with pc := t.pc }) ∧
    (∃ t, exec .jpIx s = .next t ∧ t.pc = s.ix ∧ t = { s with pc := t.pc }) ∧
    (∃ t, exec .jpIy s = .next t ∧ t.pc = s.iy ∧ t = { s with pc := t.pc })

/-- The relative jumps, and DJNZ, which counts B down without a flag and jumps unless B is 0 (R402 to R406, R410). -/
def Obligations.JumpRelative : Prop :=
  ∀ (s : State) (e : Byte),
    (∃ t, exec (.jrE e) s = .next t ∧ t.pc = jumpTarget s e ∧ t = { s with pc := t.pc }) ∧
    (∀ p ∈ [(Cond.nz, Instr.jrNzE e), (.z, .jrZE e), (.nc, .jrNcE e), (.c, .jrCE e)],
      ∃ t, exec p.2 s = .next t ∧ t.pc = (if condHolds s.f.toFlags p.1 then jumpTarget s e else s.pc) ∧
        t = { s with pc := t.pc }) ∧
    (∃ t, exec (.djnzE e) s = .next t ∧ t.b.toNat = (s.b.toNat + 255) % 256 ∧
      t.pc = (if s.b.toNat = 1 then s.pc else jumpTarget s e) ∧ t = { s with b := t.b, pc := t.pc })

/-- The calls: PC is pushed and becomes the target; CALL cc does nothing where the condition fails (R411, R412, R417). -/
def Obligations.CallPushesReturn : Prop :=
  ∀ s : State, Alone s →
    (∀ nn, ∃ t, exec (.callNn nn) s = .next t ∧ PushesTo s t s.pc nn) ∧
    (∀ cc nn, ∃ t, exec (.callCcNn cc nn) s = .next t ∧
      if condHolds s.f.toFlags cc then PushesTo s t s.pc nn else t = s) ∧
    (∀ p : Byte, ∃ t, exec (.rstP p) s = .next t ∧ PushesTo s t s.pc (BitVec.ofNat 16 p.toNat))

/-- The returns: PC is popped; RET cc does nothing where the condition fails; RETN copies IFF2 to IFF1; RETI leaves IFF1
unless it differs from IFF2, where it is open; no other register, no flag, no byte of memory (R413 to R416). -/
def Obligations.ReturnPopsPc : Prop :=
  ∀ s : State, Alone s →
    (∃ t, exec .ret s = .next t ∧ t.pc = s.pop16.1 ∧ t.sp = s.sp + 2 ∧
      t = { s with pc := t.pc, sp := t.sp, dataIn := t.dataIn, draws := t.draws, trace := t.trace }) ∧
    (∀ cc, ∃ t, exec (.retCc cc) s = .next t ∧
      if condHolds s.f.toFlags cc then
        t.pc = s.pop16.1 ∧ t.sp = s.sp + 2 ∧
          t = { s with pc := t.pc, sp := t.sp, dataIn := t.dataIn, draws := t.draws, trace := t.trace }
      else t = s) ∧
    (∃ t, exec .retn s = .next t ∧ t.pc = s.pop16.1 ∧ t.sp = s.sp + 2 ∧ t.iff1 = s.iff2 ∧
      t = { s with pc := t.pc, sp := t.sp, iff1 := t.iff1, dataIn := t.dataIn, draws := t.draws, trace := t.trace }) ∧
    (∃ t, exec .reti s = .next t ∧ t.pc = s.pop16.1 ∧ t.sp = s.sp + 2 ∧ (s.iff1 = s.iff2 → t.iff1 = s.iff1) ∧
      t = { s with pc := t.pc, sp := t.sp, iff1 := t.iff1, dataIn := t.dataIn, draws := t.draws, trace := t.trace })

/-! Input and output (spec/49_io.md). -/

/-- IN and OUT: one input or output cycle at the port address A : n or B : C; IN A,(n) writes no flag, IN r,(C) S, Z,
parity, H and N; OUT changes no state but the bus (R430, R431, R436, R437). -/
def Obligations.InputAndOutput : Prop :=
  ∀ (s : State) (n : Byte) (r : R8), Alone s →
    (∃ t, exec (.inAN n) s = .next t ∧ t.a = (s.portIn (joinBytes s.a n)).1 ∧
      t.trace = .input (joinBytes s.a n) (s.portIn (joinBytes s.a n)).1 :: s.trace ∧
      t = { s with a := t.a, dataIn := t.dataIn, draws := t.draws, trace := t.trace }) ∧
    (∃ t, exec (.inRC r) s = .next t ∧ OnlyReg8 s t r (s.portIn s.bc).1 ∧
      LoadedRule s.f.toFlags (s.portIn s.bc).1 (EvenOnes (s.portIn s.bc).1) t.f.toFlags ∧
      t.trace = .input s.bc (s.portIn s.bc).1 :: s.trace ∧
      t = { s with a := t.a, b := t.b, c := t.c, d := t.d, e := t.e, h := t.h, l := t.l, f := t.f,
                   dataIn := t.dataIn, draws := t.draws, trace := t.trace }) ∧
    (∃ t, exec (.outNA n) s = .next t ∧ t = { s with trace := .output (joinBytes s.a n) s.a :: s.trace }) ∧
    (∃ t, exec (.outCR r) s = .next t ∧ t = { s with trace := .output s.bc (s.reg8 r) :: s.trace })

/-- INI, INIR, IND, INDR and OUTI, OTIR, OUTD, OTDR: the flags but Z are open (R432 to R435, R438 to R441;
spec/60_exceptions.md R460). -/
def Obligations.BlockInputAndOutput : Prop :=
  ∀ s : State, Alone s →
    Inputs .ini s 1 false ∧ Inputs .inir s 1 true ∧ Inputs .ind s (-1) false ∧ Inputs .indr s (-1) true ∧
    Outputs .outi s 1 false ∧ Outputs .otir s 1 true ∧ Outputs .outd s (-1) false ∧ Outputs .otdr s (-1) true

/-! Interrupts (spec/60_exceptions.md). -/

/-- A pending NMI is accepted at a sampling point whatever IFF1 and INT are: halt left, IFF1 cleared and IFF2 kept, R
advanced once, PC pushed, 0066H next; F changes only after LD A,I or LD A,R, in P/V alone (R453). -/
def Obligations.NmiAcceptance : Prop :=
  ∀ (s : State) (lastLdAIR : Bool), Alone s → s.nmiPending = true →
    ∃ t, s.sample lastLdAIR = .next t ∧ StoresAt s t [(s.sp - 1, hiByte s.pc), (s.sp - 2, loByte s.pc)] ∧
      (if lastLdAIR then t.f = { s.f with pv := t.f.pv } else t.f = s.f) ∧ nmiResponse = 11 ∧
      t = { s with nmiPending := false, halted := false, clockState := .running, iff1 := false, r := inc7 s.r,
                   sp := s.sp - 2, pc := 0x0066, f := t.f, mem := t.mem, draws := t.draws, trace := t.trace }

/-- Acceptance of INT in modes 1 and 2 (R454, R457, R458): both flip-flops cleared, R advanced once, PC pushed; mode 1
goes to 0038H whatever byte V the acknowledge cycle reads; mode 2 to the word at I : V, which memory holds after the
push; F changes only after LD A,I or LD A,R, in P/V alone. -/
def Obligations.IntAcceptance : Prop :=
  ∀ (s : State) (lastLdAIR : Bool), Alone s → s.nmiPending = false → s.pins.intLow = true → s.iff1 = true →
    s.eiShadow = false → s.im ≠ .mode0 →
    ∃ t, s.sample lastLdAIR = .next t ∧ StoresAt s t [(s.sp - 1, hiByte s.pc), (s.sp - 2, loByte s.pc)] ∧
      (s.im = .mode1 → t.pc = 0x0038 ∧ intResponse .mode1 = 13) ∧
      (s.im = .mode2 → intResponse .mode2 = 19 ∧ ∀ lo hi,
        Holds t (joinBytes s.i (s.freePV lastLdAIR).external.1) lo →
        Holds t (joinBytes s.i (s.freePV lastLdAIR).external.1 + 1) hi → t.pc = joinBytes hi lo) ∧
      (if lastLdAIR then t.f = { s.f with pv := t.f.pv } else t.f = s.f) ∧
      t = { s with halted := false, clockState := .running, iff1 := false, iff2 := false, r := inc7 s.r,
                   sp := s.sp - 2, pc := t.pc, f := t.f, mem := t.mem, dataIn := t.dataIn, draws := t.draws,
                   trace := t.trace }

/-- Acceptance of INT in mode 0 (R454, R456): a restart opcode V acts as RST 8 * V[5:3], with the flip-flops, the halt
state and R as in the other modes; F changes only after LD A,I or LD A,R, in P/V alone (R454 (e)); any other V is refused
(log entry 15). -/
def Obligations.IntAcceptanceModeZero : Prop :=
  ∀ (s : State) (lastLdAIR : Bool) (v : Byte), Alone s → s.nmiPending = false → s.pins.intLow = true → s.iff1 = true →
    s.eiShadow = false → s.im = .mode0 → (s.freePV lastLdAIR).external.1 = v →
    (v ∈ [0xC7, 0xCF, 0xD7, 0xDF, 0xE7, 0xEF, 0xF7, 0xFF] →
      ∃ t, s.sample lastLdAIR = .next t ∧ StoresAt s t [(s.sp - 1, hiByte s.pc), (s.sp - 2, loByte s.pc)] ∧
        t.pc.toNat = 8 * (v.toNat / 8 % 8) ∧ intResponse .mode0 = 13 ∧
        (if lastLdAIR then t.f = { s.f with pv := t.f.pv } else t.f = s.f) ∧
        t = { s with halted := false, clockState := .running, iff1 := false, iff2 := false, r := inc7 s.r,
                     sp := s.sp - 2, pc := t.pc, f := t.f, mem := t.mem, dataIn := t.dataIn, draws := t.draws,
                     trace := t.trace }) ∧
    (v ∉ [0xC7, 0xCF, 0xD7, 0xDF, 0xE7, 0xEF, 0xF7, 0xFF] →
      (s.sample lastLdAIR).result = .refused (.mode0NotRestart v))

/-- An NMI taken over a stack in RAM and ended by RETN: PC and SP are back, IFF1 is what IFF2 was, and the registers the
handler did not touch are as before (R453; spec/48_jump_call_return.md R416). -/
def Obligations.NmiThenReturn : Prop :=
  ∀ s : State, Alone s → s.nmiPending = true → s.kindAt (s.sp - 1) = .ram → s.kindAt (s.sp - 2) = .ram →
    ∃ t u, s.sample false = .next t ∧ t.pc = 0x0066 ∧ t.iff1 = false ∧ exec .retn t = .next u ∧
      u.pc = s.pc ∧ u.sp = s.sp ∧ u.iff1 = s.iff2 ∧ u.iff2 = s.iff2 ∧ u.f = s.f ∧ ∀ q, u.reg8 q = s.reg8 q

/-- A step of the halt state in RUN mode, whatever NMI, INT and IFF1 are: it is the sampling point taken after one NOP,
from s with the step's inputs taken, an M1 cycle at PC recorded, in which the byte at PC is one the MPU ignores, R advanced
and the bus not granted; so NMI and an INT that is accepted end the halt there. With no interrupt to accept nothing else
changes (R465, R467, R471). -/
def Obligations.HaltRunStep : Prop :=
  ∀ s t : State, Alone s → s.takeInput.pins.reset = .inactive → s.takeInput.pins.busreqLow = false → s.halted = true →
    s.clockState = .running → s.takeInput.pins.ms1 = s.pins.ms1 → s.takeInput.pins.ms2 = s.pins.ms2 →
    t = { s.takeInput with
            r := inc7 s.r, busGranted := false,
            trace := .refresh (joinBytes s.i s.r) :: .haltFetch s.pc (s.ignoredAt s.pc) :: s.trace } →
    step s = (t.sample false).result ∧
    (t.nmiPending = false → (t.pins.intLow = false ∨ t.iff1 = false) → step s = .next t)

/-- A step of the halt state with the clock stopped (R468 to R470, R472 to R474, R485). First, with the pins as they are or
one input to come. Nothing to wake it: nothing changes. BUSREQ at "0" then: the MPU does nothing, and the other master's
writes land exactly where BUSREQ is answered, which is open. An INT that IFF1 forbids wakes it for one NOP after which it
sleeps again; while that INT stays at "0", R[6:0] is open and the halt state persists. Then, whatever the inputs, from u,
which is s with them taken, and where BUSREQ is at "0" its answer too: a latched NMI wakes it, one NOP and then the NMI's
own entry (R453), two advances of R, or R[6:0] open where INT has stayed at "0" with IFF1 = 0; so does an INT that IFF1
allows, with the acknowledge cycle's byte V and the interrupt mode's target (R454, R456 to R458), but in mode 0 a V that is
no restart opcode is refused (log entry 15). Which step counts as one where INT has stayed at "0" is the model's choice
(log entry 13), and that the answer to BUSREQ decides on the writes (log entry 21). -/
def Obligations.HaltAsleepStep : Prop :=
  (∀ s : State, Alone s → s.inputs = [] → s.pins.reset = .inactive → s.pins.intPulse = false → s.halted = true →
    s.busGranted = false → s.clockState ∈ [ClockState.idle1, .idle2, .stopped] →
    (s.pins.intLow = false → s.nmiPending = false → s.pins.busreqLow = false → step s = .next s) ∧
    (s.pins.intLow = false → s.nmiPending = false → ∀ x : StepInput,
      x.pins = { s.pins with busreqLow := true } → x.nmiEdge = false →
      ∃ t, step { s with inputs := [x] } = .next t ∧
        (if t.busackPin = .low then
          t.mem = (s.storeAll x.busWrites).mem ∧ t.trace = .granted x.busWrites :: s.trace
        else t.mem = s.mem ∧ t.trace = s.trace) ∧
        t = { s with pins := x.pins, mem := t.mem, sleepBusack := t.sleepBusack, draws := t.draws,
                     trace := t.trace }) ∧
    (s.pins.intLow = false → s.nmiPending = false → s.iff1 = false → s.pins.busreqLow = false → ∀ x : StepInput,
      x.pins = { s.pins with intLow := true } → x.nmiEdge = false →
      ∃ t, step { s with inputs := [x] } = .next t ∧
        t = { s with r := inc7 s.r, pins := x.pins, trace := t.trace }) ∧
    (s.pins.intLow = true → s.nmiPending = false → s.iff1 = false →
      ∃ t, step s = .next t ∧ t.r.getLsbD 7 = s.r.getLsbD 7 ∧
        t = { s with r := t.r, sleepBusack := t.sleepBusack, draws := t.draws, trace := t.trace })) ∧
  (∀ s u : State, Alone s → s.takeInput.pins.reset = .inactive → s.halted = true →
    s.clockState ∈ [ClockState.idle1, .idle2, .stopped] → s.takeInput.pins.ms1 = s.pins.ms1 →
    s.takeInput.pins.ms2 = s.pins.ms2 → u = State.sleepGrant { s.takeInput with busGranted := false } s.coming →
    (s.takeInput.pins.busreqLow = false → u = { s.takeInput with busGranted := false }) ∧
    (u.nmiPending = true →
      ∃ t, step s = .next t ∧ StoresAt u t [(u.sp - 1, hiByte u.pc), (u.sp - 2, loByte u.pc)] ∧
        t.r.getLsbD 7 = u.r.getLsbD 7 ∧
        (s.pins.intLow = false ∨ u.iff1 = true ∨ (u.pins.intLow = false ∧ u.pins.intPulse = false) →
          t.r = inc7 (inc7 u.r)) ∧
        t = { u with nmiPending := false, halted := false, clockState := .running, iff1 := false, r := t.r,
                     sp := u.sp - 2, pc := 0x0066, mem := t.mem, draws := t.draws, trace := t.trace }) ∧
    (∀ v : Byte, u.nmiPending = false → u.pins.intLow = true → u.iff1 = true → u.eiShadow = false →
      u.external.1 = v →
      if u.im = .mode0 ∧ v ∉ [0xC7, 0xCF, 0xD7, 0xDF, 0xE7, 0xEF, 0xF7, 0xFF] then
        step s = .refused (.mode0NotRestart v)
      else
        ∃ t, step s = .next t ∧ StoresAt u t [(u.sp - 1, hiByte u.pc), (u.sp - 2, loByte u.pc)] ∧
          (u.im = .mode0 → t.pc.toNat = 8 * (v.toNat / 8 % 8)) ∧ (u.im = .mode1 → t.pc = 0x0038) ∧
          (u.im = .mode2 → ∀ lo hi, Holds t (joinBytes u.i v) lo → Holds t (joinBytes u.i v + 1) hi →
            t.pc = joinBytes hi lo) ∧
          t = { u with halted := false, clockState := .running, iff1 := false, iff2 := false, r := inc7 (inc7 u.r),
                       sp := u.sp - 2, pc := t.pc, mem := t.mem, dataIn := t.dataIn, draws := t.draws,
                       trace := t.trace }))

/-- BUSREQ while the clock runs, in or out of the halt state: the bus is granted and the MPU does nothing; the other
master's writes land; an NMI edge is latched and no interrupt is taken (R459, R485; spec/20_memory.md R87). -/
def Obligations.BusGrantStep : Prop :=
  ∀ (s : State) (x : StepInput) (rest : List StepInput), s.inputs = x :: rest → x.pins.reset = .inactive →
    x.pins.busreqLow = true → s.clockState = .running →
    (s.halted = true → x.pins.ms1 = s.pins.ms1 ∧ x.pins.ms2 = s.pins.ms2) →
    ∃ t, step s = .next t ∧
      t = { s with busGranted := true, nmiPending := s.nmiPending || x.nmiEdge, pins := x.pins, inputs := rest,
                   mem := t.mem, trace := .granted x.busWrites :: s.trace } ∧
      t.mem = (s.storeAll x.busWrites).mem ∧ (∀ a v, x.busWrites = [(a, v)] → StoresAt s t [(a, v)])

/-- RESET at "0" long enough, from any state: what the spec says of every register, memory untouched, no bus cycle of the
MPU while the buses float, and the registers it does not list open (spec/70_reset_and_hazards.md R521, R522, R527;
spec/10_state.md Table R48). RESET comes before every other event (R459). bus_granted follows BUSREQ; that another
master's writes then land is the model's choice (log entry 20). -/
def Obligations.ResetStep : Prop :=
  ∀ (s : State) (x : StepInput) (rest : List StepInput), s.inputs = x :: rest → x.pins.reset = .asserted →
    ∃ t, step s = .next t ∧ t.pc = 0x0000 ∧ t.i = 0x00 ∧ t.r = 0x00 ∧ t.iff1 = false ∧ t.iff2 = false ∧
      t.im = .mode0 ∧ t.halted = false ∧ t.clockState = .running ∧ t.nmiPending = false ∧ t.eiShadow = false ∧
      t.busGranted = x.pins.busreqLow ∧ t.memMap = s.memMap ∧ t.ioMap = s.ioMap ∧ t.inputs = rest ∧ t.pins = x.pins ∧
      (x.pins.busreqLow = false → t.mem = s.mem ∧ t.trace = .resetHeld :: s.trace) ∧
      (x.pins.busreqLow = true →
        t.mem = (s.storeAll x.busWrites).mem ∧ t.trace = .granted x.busWrites :: .resetHeld :: s.trace)

/-- RESET falling after n of the MPU's bus cycles of a step, one that would have ended or one that is cut before the cycles
that lead to a refusal are over: the registers of Reset(), as for a RESET at its start, and RESET still at "0"; memory has
the writes, of the MPU and of another master, of the cycles done, and at most one byte more where the cut cycle is a
memory write that RESET corrupts; no byte that the step writes nowhere changes; the trace has the cycles done
(spec/70_reset_and_hazards.md R522, R521; spec/20_memory.md R88). Where those cycles are over the refusal stands. How
cycles are counted is the model's (log entry 10). -/
def Obligations.ResetDuringStep : Prop :=
  ∀ (s : State) (x : StepInput) (rest : List StepInput) (n : Nat) (corrupts : Bool) (e : Ending)
      (done left : List BusCycle),
    s.inputs = x :: rest → x.pins.reset = .during n corrupts → runFrom s s.takeInput = e →
    cutAt n (cyclesSince s e.reached) = (done, left) →
    ((∃ v, e = .next v) ∨ left ≠ [] →
      ∃ t, step s = .next t ∧ t.pc = 0x0000 ∧ t.i = 0x00 ∧ t.r = 0x00 ∧ t.iff1 = false ∧ t.iff2 = false ∧
        t.im = .mode0 ∧ t.halted = false ∧ t.clockState = .running ∧ t.nmiPending = false ∧ t.eiShadow = false ∧
        t.pins = { x.pins with reset := .asserted } ∧ t.inputs = rest ∧
        (∃ v, t.mem = (s.storeAll (writesOf done ++ cutWrite left corrupts v)).mem) ∧
        (∀ a : Word, (∀ w ∈ writesOf (done ++ left), w.1 ≠ a) → t.mem.byteAt a.toNat = s.mem.byteAt a.toNat) ∧
        t.trace = .resetHeld :: (done.reverse ++ s.trace)) ∧
    (∀ why v, e = .refused why v → left = [] → step s = .refused why)

/-! The whole machine. -/

/-- No instruction can fault: every instruction, in every state, ends in a next state (R450). -/
def Obligations.EveryInstructionCompletes : Prop :=
  ∀ (i : Instr) (s : State), ∃ t, exec i s = .next t

/-- Which instructions can write the state that has writers of its own: I and R (beyond the fetch) only LD I,A and
LD R,A; IM only the three IM; IFF1 only EI, DI, RETN, RETI; IFF2 only EI, DI; the halt state only HALT; ei_shadow only
EI; the alternate set only EX AF,AF' and EXX, each its own part; the NMI latch, the bus grant, the two maps, the pins and
the coming inputs no instruction (spec/10_state.md R22, R26, R27, R37 to R41). -/
def Obligations.StateWriters : Prop :=
  ∀ (i : Instr) (s t : State), exec i s = .next t →
    (i ≠ .ldIA → t.i = s.i) ∧ (i ≠ .ldRA → t.r = s.r) ∧ (i ∉ [Instr.im0, .im1, .im2] → t.im = s.im) ∧
    (i ∉ [Instr.ei, .di, .retn, .reti] → t.iff1 = s.iff1) ∧ (i ∉ [Instr.ei, .di] → t.iff2 = s.iff2) ∧
    (i ≠ .halt → t.halted = s.halted ∧ t.clockState = s.clockState) ∧ (i ≠ .ei → t.eiShadow = s.eiShadow) ∧
    (i ≠ .exAf → t.aAlt = s.aAlt ∧ t.fAlt = s.fAlt) ∧
    (i ≠ .exx → t.bAlt = s.bAlt ∧ t.cAlt = s.cAlt ∧ t.dAlt = s.dAlt ∧ t.eAlt = s.eAlt ∧ t.hAlt = s.hAlt ∧
      t.lAlt = s.lAlt) ∧
    t.nmiPending = s.nmiPending ∧ t.busGranted = s.busGranted ∧ t.memMap = s.memMap ∧ t.ioMap = s.ioMap ∧
    t.pins = s.pins ∧ t.inputs = s.inputs

/-- The invariant Inv: memory in its canonical form, the clock stopped only while halted, ei_shadow only after an EI,
the bus granted only while the clock runs; every step, whatever the outside does in it, keeps it. -/
def Obligations.StepKeepsInvariant : Prop :=
  ∀ s t : State, Inv s → step s = .next t → Inv t

/-- The state right after reset has the invariant Inv. -/
def Obligations.ResetHasInvariant : Prop := Inv State.reset
end

