-- ==== Sys2Proof/Laws/Decode.lean ====
section
/-! SUPPORT. What the decoder does with further bytes: an instruction found stays found, with the further bytes left
over; a rejection other than "one more byte is needed" stays. So the bytes of an instruction, read one at a time,
decode at the last of them and not before. -/

namespace Sys2Proof

/-- y is what a decoder that answered x answers when more bytes follow. -/
def Extends (more : List Byte) (x y : Decoded) : Prop :=
  match x with
  | .ok (i, rest) => y = .ok (i, rest ++ more)
  | .error .truncated => True
  | .error why => y = .error why

theorem Extends.error (more : List Byte) (why : Reject) : Extends more (.error why) (.error why) := by
  cases why <;> first | rfl | trivial

theorem Extends.truncated (more : List Byte) (y : Decoded) : Extends more (.error .truncated) y := trivial

theorem opNone_extends (i : Instr) (bs more : List Byte) : Extends more (opNone i bs) (opNone i (bs ++ more)) := rfl

theorem opByte_extends (k : Byte → Instr) (bs more : List Byte) : Extends more (opByte k bs) (opByte k (bs ++ more)) := by
  cases bs <;> first | rfl | trivial

theorem opWord_extends (k : Word → Instr) (bs more : List Byte) : Extends more (opWord k bs) (opWord k (bs ++ more)) := by
  rcases bs with _ | ⟨_, _ | ⟨_, _⟩⟩ <;> first | rfl | trivial

theorem opTwo_extends (k : Byte → Byte → Instr) (bs more : List Byte) :
    Extends more (opTwo k bs) (opTwo k (bs ++ more)) := by
  rcases bs with _ | ⟨_, _ | ⟨_, _⟩⟩ <;> first | rfl | trivial

theorem decodeQuarter0_extends (b : Byte) (bs more : List Byte) :
    Extends more (decodeQuarter0 b bs) (decodeQuarter0 b (bs ++ more)) := by
  unfold decodeQuarter0
  dsimp only
  repeat' split
  all_goals first
    | exact opNone_extends _ _ _
    | exact opByte_extends _ _ _
    | exact opWord_extends _ _ _

theorem decodeQuarter1_extends (b : Byte) (bs more : List Byte) :
    Extends more (decodeQuarter1 b bs) (decodeQuarter1 b (bs ++ more)) := by
  unfold decodeQuarter1
  split <;> exact opNone_extends _ _ _

theorem decodeQuarter2_extends (b : Byte) (bs more : List Byte) :
    Extends more (decodeQuarter2 b bs) (decodeQuarter2 b (bs ++ more)) := by
  unfold decodeQuarter2
  split <;> exact opNone_extends _ _ _

theorem decodeQuarter3_extends (b : Byte) (bs more : List Byte) :
    Extends more (decodeQuarter3 b bs) (decodeQuarter3 b (bs ++ more)) := by
  unfold decodeQuarter3
  dsimp only
  repeat' split
  all_goals first
    | exact opNone_extends _ _ _
    | exact opByte_extends _ _ _
    | exact opWord_extends _ _ _

theorem decodeMain_extends (b : Byte) (bs more : List Byte) :
    Extends more (decodeMain b bs) (decodeMain b (bs ++ more)) := by
  unfold decodeMain
  split
  · exact decodeQuarter0_extends _ _ _
  · exact decodeQuarter1_extends _ _ _
  · exact decodeQuarter2_extends _ _ _
  · exact decodeQuarter3_extends _ _ _

theorem decodeCB_extends (bs more : List Byte) : Extends more (decodeCB bs) (decodeCB (bs ++ more)) := by
  rcases bs with _ | ⟨b, bs⟩
  · trivial
  · simp only [decodeCB, List.cons_append]
    repeat' split
    all_goals first
      | exact opNone_extends _ _ _
      | exact Extends.error _ _

theorem decodeED_extends (bs more : List Byte) : Extends more (decodeED bs) (decodeED (bs ++ more)) := by
  rcases bs with _ | ⟨b, bs⟩
  · trivial
  · simp only [decodeED, decodeEDQuarter1, decodeEDQuarter2, List.cons_append]
    repeat' split
    all_goals first
      | exact opNone_extends _ _ _
      | exact opWord_extends _ _ _
      | exact Extends.error _ _

theorem decodeIXCB_extends (bs more : List Byte) : Extends more (decodeIXCB bs) (decodeIXCB (bs ++ more)) := by
  rcases bs with _ | ⟨_, _ | ⟨_, _⟩⟩
  · trivial
  · trivial
  · simp only [decodeIXCB, List.cons_append]
    repeat' split
    all_goals first
      | exact opNone_extends _ _ _
      | exact Extends.error _ _

theorem decodeIX_extends (bs more : List Byte) : Extends more (decodeIX bs) (decodeIX (bs ++ more)) := by
  rcases bs with _ | ⟨b, bs⟩
  · trivial
  · simp only [decodeIX, decodeIXQuarter0, decodeIXQuarter3, List.cons_append]
    repeat' split
    all_goals first
      | exact decodeIXCB_extends _ _
      | exact opNone_extends _ _ _
      | exact opByte_extends _ _ _
      | exact opWord_extends _ _ _
      | exact opTwo_extends _ _ _
      | exact Extends.error _ _

theorem decodeIYCB_extends (bs more : List Byte) : Extends more (decodeIYCB bs) (decodeIYCB (bs ++ more)) := by
  rcases bs with _ | ⟨_, _ | ⟨_, _⟩⟩
  · trivial
  · trivial
  · simp only [decodeIYCB, List.cons_append]
    repeat' split
    all_goals first
      | exact opNone_extends _ _ _
      | exact Extends.error _ _

theorem decodeIY_extends (bs more : List Byte) : Extends more (decodeIY bs) (decodeIY (bs ++ more)) := by
  rcases bs with _ | ⟨b, bs⟩
  · trivial
  · simp only [decodeIY, decodeIYQuarter0, decodeIYQuarter3, List.cons_append]
    repeat' split
    all_goals first
      | exact decodeIYCB_extends _ _
      | exact opNone_extends _ _ _
      | exact opByte_extends _ _ _
      | exact opWord_extends _ _ _
      | exact opTwo_extends _ _ _
      | exact Extends.error _ _

theorem decode_extends (bs more : List Byte) : Extends more (decode bs) (decode (bs ++ more)) := by
  rcases bs with _ | ⟨b, bs⟩
  · trivial
  · simp only [decode, List.cons_append]
    repeat' split
    all_goals first
      | exact decodeCB_extends _ _
      | exact decodeED_extends _ _
      | exact decodeIX_extends _ _
      | exact decodeIY_extends _ _
      | exact decodeMain_extends _ _ _

/-- What decodes still decodes with more bytes after it, which are left over. -/
theorem decode_append_ok {bs : List Byte} {i : Instr} {rest : List Byte} (h : decode bs = .ok (i, rest))
    (more : List Byte) : decode (bs ++ more) = .ok (i, rest ++ more) := by
  have e := decode_extends bs more
  rw [h] at e
  exact e

/-- What is rejected for another reason than a missing byte stays rejected, for the same reason. -/
theorem decode_append_error {bs : List Byte} {why : Reject} (h : decode bs = .error why) (ne : why ≠ .truncated)
    (more : List Byte) : decode (bs ++ more) = .error why := by
  have e := decode_extends bs more
  rw [h] at e
  cases why <;> first | exact e | exact absurd rfl ne

/-- A proper part of the bytes of an instruction decodes to nothing: the decoder asks for one more byte. -/
theorem decode_take_truncated {bs : List Byte} {i : Instr} (h : decode bs = .ok (i, [])) (n : Nat)
    (hn : n < bs.length) : decode (bs.take n) = .error .truncated := by
  have split : bs.take n ++ bs.drop n = bs := List.take_append_drop n bs
  match e : decode (bs.take n) with
  | .ok (j, rest) =>
    have k := decode_append_ok e (bs.drop n)
    rw [split, h] at k
    have len := congrArg (fun d : Decoded => match d with | .ok p => p.2.length | .error _ => 0) k
    simp at len
    omega
  | .error why =>
    by_cases ne : why = .truncated
    · rw [ne]
    · have k := decode_append_error e ne (bs.drop n)
      rw [split, h] at k
      cases k

/-! How many bytes, and how many M1 cycles. -/

/-- The answer is no request for more bytes. -/
def Decided (x : Decoded) : Prop := x ≠ .error .truncated

/-- The instruction answered, if one is, takes n M1 cycles. -/
def FetchesM1 (n : Nat) (x : Decoded) : Prop :=
  match x with
  | .ok (i, _) => i.m1Cycles = n
  | .error _ => True

theorem opNone_decided (i : Instr) (bs : List Byte) : Decided (opNone i bs) := by intro h; cases h

theorem opByte_decided (k : Byte → Instr) (v : Byte) (bs : List Byte) : Decided (opByte k (v :: bs)) := by
  intro h; cases h

theorem opWord_decided (k : Word → Instr) (v w : Byte) (bs : List Byte) : Decided (opWord k (v :: w :: bs)) := by
  intro h; cases h

theorem opTwo_decided (k : Byte → Byte → Instr) (v w : Byte) (bs : List Byte) : Decided (opTwo k (v :: w :: bs)) := by
  intro h; cases h

/-- Four bytes are always enough to decide (spec/30_encoding.md R110). -/
theorem decode_decided (b0 b1 b2 b3 : Byte) (bs : List Byte) : Decided (decode (b0 :: b1 :: b2 :: b3 :: bs)) := by
  simp only [decode, decodeMain, decodeQuarter0, decodeQuarter1, decodeQuarter2, decodeQuarter3, decodeCB, decodeED,
    decodeEDQuarter1, decodeEDQuarter2, decodeIX, decodeIXQuarter0, decodeIXQuarter3, decodeIXCB, decodeIY,
    decodeIYQuarter0, decodeIYQuarter3, decodeIYCB]
  repeat' split
  all_goals first
    | exact opNone_decided _ _
    | exact opByte_decided _ _ _
    | exact opWord_decided _ _ _ _
    | exact opTwo_decided _ _ _ _
    | (intro h; cases h)

theorem opNone_m1 {i : Instr} {n : Nat} (bs : List Byte) (h : i.m1Cycles = n) : FetchesM1 n (opNone i bs) := h

theorem opByte_m1 {k : Byte → Instr} {n : Nat} (bs : List Byte) (h : ∀ v, (k v).m1Cycles = n) :
    FetchesM1 n (opByte k bs) := by
  cases bs <;> first | exact h _ | trivial

theorem opWord_m1 {k : Word → Instr} {n : Nat} (bs : List Byte) (h : ∀ v, (k v).m1Cycles = n) :
    FetchesM1 n (opWord k bs) := by
  rcases bs with _ | ⟨_, _ | ⟨_, _⟩⟩ <;> first | exact h _ | trivial

theorem opTwo_m1 {k : Byte → Byte → Instr} {n : Nat} (bs : List Byte) (h : ∀ v w, (k v w).m1Cycles = n) :
    FetchesM1 n (opTwo k bs) := by
  rcases bs with _ | ⟨_, _ | ⟨_, _⟩⟩ <;> first | exact h _ _ | trivial

theorem aluOnReg_m1 (y : Nat) (r : R8) : (aluOnReg y r).m1Cycles = 1 := by unfold aluOnReg; split <;> rfl
theorem aluOnHl_m1 (y : Nat) : (aluOnHl y).m1Cycles = 1 := by unfold aluOnHl; split <;> rfl
theorem aluOnN_m1 (y : Nat) (n : Byte) : (aluOnN y n).m1Cycles = 1 := by unfold aluOnN; split <;> rfl
theorem aluOnIx_m1 (y : Nat) (d : Byte) : (aluOnIx y d).m1Cycles = 2 := by unfold aluOnIx; split <;> rfl
theorem aluOnIy_m1 (y : Nat) (d : Byte) : (aluOnIy y d).m1Cycles = 2 := by unfold aluOnIy; split <;> rfl

theorem shiftOnReg_m1 {y : Nat} {r : R8} {i : Instr} (h : shiftOnReg y r = some i) : i.m1Cycles = 2 := by
  unfold shiftOnReg at h
  split at h <;> cases h <;> rfl

theorem shiftOnHl_m1 {y : Nat} {i : Instr} (h : shiftOnHl y = some i) : i.m1Cycles = 2 := by
  unfold shiftOnHl at h
  split at h <;> cases h <;> rfl

theorem shiftOnIx_m1 {y : Nat} {d : Byte} {i : Instr} (h : shiftOnIx y d = some i) : i.m1Cycles = 2 := by
  unfold shiftOnIx at h
  split at h <;> cases h <;> rfl

theorem shiftOnIy_m1 {y : Nat} {d : Byte} {i : Instr} (h : shiftOnIy y d = some i) : i.m1Cycles = 2 := by
  unfold shiftOnIy at h
  split at h <;> cases h <;> rfl

/-- An instruction without a prefix takes one M1 cycle (spec/20_memory.md R79). -/
theorem decodeMain_m1 (b : Byte) (bs : List Byte) : FetchesM1 1 (decodeMain b bs) := by
  simp only [decodeMain, decodeQuarter0, decodeQuarter1, decodeQuarter2, decodeQuarter3]
  repeat' split
  all_goals first
    | exact opNone_m1 _ rfl
    | exact opByte_m1 _ fun _ => rfl
    | exact opWord_m1 _ fun _ => rfl
    | exact opNone_m1 _ (aluOnReg_m1 _ _)
    | exact opNone_m1 _ (aluOnHl_m1 _)
    | exact opByte_m1 _ (aluOnN_m1 _)

theorem decodeCB_m1 (bs : List Byte) : FetchesM1 2 (decodeCB bs) := by
  rcases bs with _ | ⟨b, bs⟩
  · trivial
  · simp only [decodeCB]
    repeat' split
    all_goals first
      | trivial
      | exact opNone_m1 _ rfl
      | exact opNone_m1 _ (shiftOnReg_m1 ‹_›)
      | exact opNone_m1 _ (shiftOnHl_m1 ‹_›)

theorem decodeED_m1 (bs : List Byte) : FetchesM1 2 (decodeED bs) := by
  rcases bs with _ | ⟨b, bs⟩
  · trivial
  · simp only [decodeED, decodeEDQuarter1, decodeEDQuarter2]
    repeat' split
    all_goals first
      | trivial
      | exact opNone_m1 _ rfl
      | exact opWord_m1 _ fun _ => rfl

theorem decodeIXCB_m1 (bs : List Byte) : FetchesM1 2 (decodeIXCB bs) := by
  rcases bs with _ | ⟨_, _ | ⟨_, _⟩⟩
  · trivial
  · trivial
  · simp only [decodeIXCB]
    repeat' split
    all_goals first
      | trivial
      | exact opNone_m1 _ rfl
      | exact opNone_m1 _ (shiftOnIx_m1 ‹_›)

theorem decodeIX_m1 (bs : List Byte) : FetchesM1 2 (decodeIX bs) := by
  rcases bs with _ | ⟨b, bs⟩
  · trivial
  · simp only [decodeIX, decodeIXQuarter0, decodeIXQuarter3]
    repeat' split
    all_goals first
      | trivial
      | exact decodeIXCB_m1 _
      | exact opNone_m1 _ rfl
      | exact opByte_m1 _ fun _ => rfl
      | exact opWord_m1 _ fun _ => rfl
      | exact opTwo_m1 _ fun _ _ => rfl
      | exact opByte_m1 _ (aluOnIx_m1 _)

theorem decodeIYCB_m1 (bs : List Byte) : FetchesM1 2 (decodeIYCB bs) := by
  rcases bs with _ | ⟨_, _ | ⟨_, _⟩⟩
  · trivial
  · trivial
  · simp only [decodeIYCB]
    repeat' split
    all_goals first
      | trivial
      | exact opNone_m1 _ rfl
      | exact opNone_m1 _ (shiftOnIy_m1 ‹_›)

theorem decodeIY_m1 (bs : List Byte) : FetchesM1 2 (decodeIY bs) := by
  rcases bs with _ | ⟨b, bs⟩
  · trivial
  · simp only [decodeIY, decodeIYQuarter0, decodeIYQuarter3]
    repeat' split
    all_goals first
      | trivial
      | exact decodeIYCB_m1 _
      | exact opNone_m1 _ rfl
      | exact opByte_m1 _ fun _ => rfl
      | exact opWord_m1 _ fun _ => rfl
      | exact opTwo_m1 _ fun _ _ => rfl
      | exact opByte_m1 _ (aluOnIy_m1 _)

/-- An instruction whose first byte is a prefix takes two M1 cycles, any other one (spec/20_memory.md R79). -/
theorem decode_m1 (b : Byte) (bs : List Byte) :
    FetchesM1 (if isPrefixByte b then 2 else 1) (decode (b :: bs)) := by
  simp only [decode]
  by_cases h1 : b = 0xCB
  · subst h1; exact decodeCB_m1 bs
  · by_cases h2 : b = 0xED
    · subst h2; exact decodeED_m1 bs
    · by_cases h3 : b = 0xDD
      · subst h3; exact decodeIX_m1 bs
      · by_cases h4 : b = 0xFD
        · subst h4; exact decodeIY_m1 bs
        · rw [if_neg h1, if_neg h2, if_neg h3, if_neg h4]
          have : isPrefixByte b = false := by
            simp only [isPrefixByte, Bool.or_eq_false_iff, beq_eq_false_iff_ne]
            exact ⟨⟨⟨h1, h2⟩, h3⟩, h4⟩
          rw [this]
          exact decodeMain_m1 b bs

end Sys2Proof
end

