-- ==== Sys2Proof/Laws/Memory.lean ====
section
/-! SUPPORT. The laws of memory as data: a read after a write, and the canonical form, which every store keeps. -/

namespace Sys2Proof.Machine

/-- A read after a store: the stored byte at the address stored to, the old answer elsewhere. -/
theorem Memory.byteAt_store (m : Memory) (a b : Nat) (v : Byte) :
    (m.store a v).byteAt b = if b = a then some v else m.byteAt b := by
  induction m with
  | nil => simp [Memory.store, Memory.byteAt, eq_comm]
  | cons kv m ih =>
    obtain ⟨k, w⟩ := kv
    by_cases h1 : a < k
    · by_cases hb : b = a
      · simp [Memory.store, Memory.byteAt, h1, hb]
      · have : ¬ a = b := fun h => hb h.symm
        simp [Memory.store, Memory.byteAt, h1, hb, this]
    · by_cases h2 : a = k
      · subst h2
        by_cases hb : b = a
        · simp [Memory.store, Memory.byteAt, hb]
        · have : ¬ a = b := fun h => hb h.symm
          simp [Memory.store, Memory.byteAt, hb, this]
      · by_cases hk : k = b
        · have : ¬ b = a := fun h => h2 (h.symm.trans hk.symm)
          rw [Memory.store, if_neg h1, if_neg h2]
          simp [Memory.byteAt, hk, this]
        · simp [Memory.store, Memory.byteAt, h1, h2, hk, ih]

@[simp] theorem Memory.byteAt_store_same (m : Memory) (a : Nat) (v : Byte) : (m.store a v).byteAt a = some v := by
  simp [Memory.byteAt_store]

theorem Memory.byteAt_store_other (m : Memory) {a b : Nat} (v : Byte) (h : b ≠ a) :
    (m.store a v).byteAt b = m.byteAt b := by
  simp [Memory.byteAt_store, h]

/-- A store into memory that rises from lo on, at an address not below lo, leaves it so. -/
theorem Memory.risesFrom_store (m : Memory) (lo a : Nat) (v : Byte) (hlo : lo ≤ a) (ha : a < 65536)
    (hm : m.risesFrom lo = true) : (m.store a v).risesFrom lo = true := by
  induction m generalizing lo with
  | nil => simp [Memory.store, Memory.risesFrom, hlo, ha]
  | cons kv m ih =>
    obtain ⟨k, w⟩ := kv
    simp only [Memory.risesFrom, Bool.and_eq_true, decide_eq_true_eq] at hm
    by_cases h1 : a < k
    · simp only [Memory.store, h1, if_true, Memory.risesFrom, Bool.and_eq_true, decide_eq_true_eq]
      exact ⟨⟨hlo, ha⟩, ⟨by omega, hm.1.2⟩, hm.2⟩
    · by_cases h2 : a = k
      · subst h2
        simp only [Memory.store, Nat.lt_irrefl, if_false, if_true, Memory.risesFrom, Bool.and_eq_true,
          decide_eq_true_eq]
        exact hm
      · simp only [Memory.store, h1, h2, if_false, Memory.risesFrom, Bool.and_eq_true, decide_eq_true_eq]
        exact ⟨hm.1, ih (k + 1) (by omega) hm.2⟩

/-- Every store keeps the canonical form. -/
theorem Memory.wf_store (m : Memory) (a : Word) (v : Byte) (hm : m.wf = true) : (m.store a.toNat v).wf = true :=
  Memory.risesFrom_store m 0 a.toNat v (Nat.zero_le _) a.isLt hm

theorem Memory.wf_storeBytes (vs : List Byte) (m : Memory) (a : Word) (hm : m.wf = true) :
    (m.storeBytes a vs).wf = true := by
  induction vs generalizing m a with
  | nil => exact hm
  | cons v vs ih => exact ih _ _ (Memory.wf_store m a v hm)

/-- Memory that rises from lo on holds nothing below lo. -/
theorem Memory.byteAt_of_lt (m : Memory) (lo a : Nat) (hm : m.risesFrom lo = true) (h : a < lo) :
    m.byteAt a = none := by
  induction m generalizing lo with
  | nil => rfl
  | cons kv m ih =>
    obtain ⟨k, w⟩ := kv
    simp only [Memory.risesFrom, Bool.and_eq_true, decide_eq_true_eq] at hm
    have hk : ¬ k = a := by omega
    simp only [Memory.byteAt, hk, if_false]
    exact ih (k + 1) hm.2 (by omega)

/-- Two memories in canonical form with the same bytes are the same list. -/
theorem Memory.ext_of_rises (m n : Memory) (lo : Nat) (hm : m.risesFrom lo = true) (hn : n.risesFrom lo = true)
    (h : ∀ a, m.byteAt a = n.byteAt a) : m = n := by
  induction m generalizing n lo with
  | nil =>
    cases n with
    | nil => rfl
    | cons kv n => have := h kv.1; simp [Memory.byteAt] at this
  | cons kv m ih =>
    obtain ⟨k, v⟩ := kv
    cases n with
    | nil => have := h k; simp [Memory.byteAt] at this
    | cons lw n =>
      obtain ⟨l, w⟩ := lw
      simp only [Memory.risesFrom, Bool.and_eq_true, decide_eq_true_eq] at hm hn
      have hkl : k = l := by
        rcases Nat.lt_trichotomy k l with hlt | heq | hgt
        · have h1 := h k
          have hne : ¬ l = k := by omega
          simp only [Memory.byteAt, if_true, hne, if_false,
            Memory.byteAt_of_lt n (l + 1) k hn.2 (by omega)] at h1
          cases h1
        · exact heq
        · have h1 := h l
          have hne : ¬ k = l := by omega
          simp only [Memory.byteAt, if_true, hne, if_false,
            Memory.byteAt_of_lt m (k + 1) l hm.2 (by omega)] at h1
          cases h1
      subst hkl
      have hv := h k
      simp only [Memory.byteAt, if_true, Option.some.injEq] at hv
      subst hv
      refine congrArg _ (ih n (k + 1) hm.2 hn.2 fun a => ?_)
      have ha := h a
      by_cases hka : k = a
      · subst hka
        rw [Memory.byteAt_of_lt m (k + 1) k hm.2 (by omega), Memory.byteAt_of_lt n (k + 1) k hn.2 (by omega)]
      · simpa only [Memory.byteAt, hka, if_false] using ha

end Sys2Proof.Machine
end

