-- ==== Sys2Proof/Laws/State.lean ====
section
/-! SUPPORT. The updates of the state: what each named update does to each field, true by unfolding, so that no proof
unfolds a record update. Each lemma is named after the update and the field. -/

namespace Sys2Proof.Machine


/-! A free byte drawn. -/

@[simp] theorem State.draw_a (s : State) : s.draw.2.a = s.a := rfl
@[simp] theorem State.draw_f (s : State) : s.draw.2.f = s.f := rfl
@[simp] theorem State.draw_b (s : State) : s.draw.2.b = s.b := rfl
@[simp] theorem State.draw_c (s : State) : s.draw.2.c = s.c := rfl
@[simp] theorem State.draw_d (s : State) : s.draw.2.d = s.d := rfl
@[simp] theorem State.draw_e (s : State) : s.draw.2.e = s.e := rfl
@[simp] theorem State.draw_h (s : State) : s.draw.2.h = s.h := rfl
@[simp] theorem State.draw_l (s : State) : s.draw.2.l = s.l := rfl
@[simp] theorem State.draw_aAlt (s : State) : s.draw.2.aAlt = s.aAlt := rfl
@[simp] theorem State.draw_fAlt (s : State) : s.draw.2.fAlt = s.fAlt := rfl
@[simp] theorem State.draw_bAlt (s : State) : s.draw.2.bAlt = s.bAlt := rfl
@[simp] theorem State.draw_cAlt (s : State) : s.draw.2.cAlt = s.cAlt := rfl
@[simp] theorem State.draw_dAlt (s : State) : s.draw.2.dAlt = s.dAlt := rfl
@[simp] theorem State.draw_eAlt (s : State) : s.draw.2.eAlt = s.eAlt := rfl
@[simp] theorem State.draw_hAlt (s : State) : s.draw.2.hAlt = s.hAlt := rfl
@[simp] theorem State.draw_lAlt (s : State) : s.draw.2.lAlt = s.lAlt := rfl
@[simp] theorem State.draw_ix (s : State) : s.draw.2.ix = s.ix := rfl
@[simp] theorem State.draw_iy (s : State) : s.draw.2.iy = s.iy := rfl
@[simp] theorem State.draw_sp (s : State) : s.draw.2.sp = s.sp := rfl
@[simp] theorem State.draw_pc (s : State) : s.draw.2.pc = s.pc := rfl
@[simp] theorem State.draw_i (s : State) : s.draw.2.i = s.i := rfl
@[simp] theorem State.draw_r (s : State) : s.draw.2.r = s.r := rfl
@[simp] theorem State.draw_iff1 (s : State) : s.draw.2.iff1 = s.iff1 := rfl
@[simp] theorem State.draw_iff2 (s : State) : s.draw.2.iff2 = s.iff2 := rfl
@[simp] theorem State.draw_im (s : State) : s.draw.2.im = s.im := rfl
@[simp] theorem State.draw_halted (s : State) : s.draw.2.halted = s.halted := rfl
@[simp] theorem State.draw_nmiPending (s : State) : s.draw.2.nmiPending = s.nmiPending := rfl
@[simp] theorem State.draw_eiShadow (s : State) : s.draw.2.eiShadow = s.eiShadow := rfl
@[simp] theorem State.draw_busGranted (s : State) : s.draw.2.busGranted = s.busGranted := rfl
@[simp] theorem State.draw_clockState (s : State) : s.draw.2.clockState = s.clockState := rfl
@[simp] theorem State.draw_mem (s : State) : s.draw.2.mem = s.mem := rfl
@[simp] theorem State.draw_memMap (s : State) : s.draw.2.memMap = s.memMap := rfl
@[simp] theorem State.draw_ioMap (s : State) : s.draw.2.ioMap = s.ioMap := rfl
@[simp] theorem State.draw_sleepBusack (s : State) : s.draw.2.sleepBusack = s.sleepBusack := rfl
@[simp] theorem State.draw_pins (s : State) : s.draw.2.pins = s.pins := rfl
@[simp] theorem State.draw_inputs (s : State) : s.draw.2.inputs = s.inputs := rfl
@[simp] theorem State.draw_grants (s : State) : s.draw.2.grants = s.grants := rfl
@[simp] theorem State.draw_dataIn (s : State) : s.draw.2.dataIn = s.dataIn := rfl
@[simp] theorem State.draw_draws (s : State) : s.draw.2.draws = s.draws + 1 := rfl
@[simp] theorem State.draw_trace (s : State) : s.draw.2.trace = s.trace := rfl

/-! A bus cycle noted. -/

@[simp] theorem State.emit_a (s : State) (x : BusCycle) : (s.emit x).a = s.a := rfl
@[simp] theorem State.emit_f (s : State) (x : BusCycle) : (s.emit x).f = s.f := rfl
@[simp] theorem State.emit_b (s : State) (x : BusCycle) : (s.emit x).b = s.b := rfl
@[simp] theorem State.emit_c (s : State) (x : BusCycle) : (s.emit x).c = s.c := rfl
@[simp] theorem State.emit_d (s : State) (x : BusCycle) : (s.emit x).d = s.d := rfl
@[simp] theorem State.emit_e (s : State) (x : BusCycle) : (s.emit x).e = s.e := rfl
@[simp] theorem State.emit_h (s : State) (x : BusCycle) : (s.emit x).h = s.h := rfl
@[simp] theorem State.emit_l (s : State) (x : BusCycle) : (s.emit x).l = s.l := rfl
@[simp] theorem State.emit_aAlt (s : State) (x : BusCycle) : (s.emit x).aAlt = s.aAlt := rfl
@[simp] theorem State.emit_fAlt (s : State) (x : BusCycle) : (s.emit x).fAlt = s.fAlt := rfl
@[simp] theorem State.emit_bAlt (s : State) (x : BusCycle) : (s.emit x).bAlt = s.bAlt := rfl
@[simp] theorem State.emit_cAlt (s : State) (x : BusCycle) : (s.emit x).cAlt = s.cAlt := rfl
@[simp] theorem State.emit_dAlt (s : State) (x : BusCycle) : (s.emit x).dAlt = s.dAlt := rfl
@[simp] theorem State.emit_eAlt (s : State) (x : BusCycle) : (s.emit x).eAlt = s.eAlt := rfl
@[simp] theorem State.emit_hAlt (s : State) (x : BusCycle) : (s.emit x).hAlt = s.hAlt := rfl
@[simp] theorem State.emit_lAlt (s : State) (x : BusCycle) : (s.emit x).lAlt = s.lAlt := rfl
@[simp] theorem State.emit_ix (s : State) (x : BusCycle) : (s.emit x).ix = s.ix := rfl
@[simp] theorem State.emit_iy (s : State) (x : BusCycle) : (s.emit x).iy = s.iy := rfl
@[simp] theorem State.emit_sp (s : State) (x : BusCycle) : (s.emit x).sp = s.sp := rfl
@[simp] theorem State.emit_pc (s : State) (x : BusCycle) : (s.emit x).pc = s.pc := rfl
@[simp] theorem State.emit_i (s : State) (x : BusCycle) : (s.emit x).i = s.i := rfl
@[simp] theorem State.emit_r (s : State) (x : BusCycle) : (s.emit x).r = s.r := rfl
@[simp] theorem State.emit_iff1 (s : State) (x : BusCycle) : (s.emit x).iff1 = s.iff1 := rfl
@[simp] theorem State.emit_iff2 (s : State) (x : BusCycle) : (s.emit x).iff2 = s.iff2 := rfl
@[simp] theorem State.emit_im (s : State) (x : BusCycle) : (s.emit x).im = s.im := rfl
@[simp] theorem State.emit_halted (s : State) (x : BusCycle) : (s.emit x).halted = s.halted := rfl
@[simp] theorem State.emit_nmiPending (s : State) (x : BusCycle) : (s.emit x).nmiPending = s.nmiPending := rfl
@[simp] theorem State.emit_eiShadow (s : State) (x : BusCycle) : (s.emit x).eiShadow = s.eiShadow := rfl
@[simp] theorem State.emit_busGranted (s : State) (x : BusCycle) : (s.emit x).busGranted = s.busGranted := rfl
@[simp] theorem State.emit_clockState (s : State) (x : BusCycle) : (s.emit x).clockState = s.clockState := rfl
@[simp] theorem State.emit_mem (s : State) (x : BusCycle) : (s.emit x).mem = s.mem := rfl
@[simp] theorem State.emit_memMap (s : State) (x : BusCycle) : (s.emit x).memMap = s.memMap := rfl
@[simp] theorem State.emit_ioMap (s : State) (x : BusCycle) : (s.emit x).ioMap = s.ioMap := rfl
@[simp] theorem State.emit_sleepBusack (s : State) (x : BusCycle) : (s.emit x).sleepBusack = s.sleepBusack := rfl
@[simp] theorem State.emit_pins (s : State) (x : BusCycle) : (s.emit x).pins = s.pins := rfl
@[simp] theorem State.emit_inputs (s : State) (x : BusCycle) : (s.emit x).inputs = s.inputs := rfl
@[simp] theorem State.emit_grants (s : State) (x : BusCycle) : (s.emit x).grants = s.grants := rfl
@[simp] theorem State.emit_dataIn (s : State) (x : BusCycle) : (s.emit x).dataIn = s.dataIn := rfl
@[simp] theorem State.emit_draws (s : State) (x : BusCycle) : (s.emit x).draws = s.draws := rfl
@[simp] theorem State.emit_trace (s : State) (x : BusCycle) : (s.emit x).trace = x :: s.trace := rfl

/-! The flags written. -/

@[simp] theorem State.setFlags_a (s : State) (fl : Byte → Flags) : (s.setFlags fl).a = s.a := rfl
@[simp] theorem State.setFlags_b (s : State) (fl : Byte → Flags) : (s.setFlags fl).b = s.b := rfl
@[simp] theorem State.setFlags_c (s : State) (fl : Byte → Flags) : (s.setFlags fl).c = s.c := rfl
@[simp] theorem State.setFlags_d (s : State) (fl : Byte → Flags) : (s.setFlags fl).d = s.d := rfl
@[simp] theorem State.setFlags_e (s : State) (fl : Byte → Flags) : (s.setFlags fl).e = s.e := rfl
@[simp] theorem State.setFlags_h (s : State) (fl : Byte → Flags) : (s.setFlags fl).h = s.h := rfl
@[simp] theorem State.setFlags_l (s : State) (fl : Byte → Flags) : (s.setFlags fl).l = s.l := rfl
@[simp] theorem State.setFlags_aAlt (s : State) (fl : Byte → Flags) : (s.setFlags fl).aAlt = s.aAlt := rfl
@[simp] theorem State.setFlags_fAlt (s : State) (fl : Byte → Flags) : (s.setFlags fl).fAlt = s.fAlt := rfl
@[simp] theorem State.setFlags_bAlt (s : State) (fl : Byte → Flags) : (s.setFlags fl).bAlt = s.bAlt := rfl
@[simp] theorem State.setFlags_cAlt (s : State) (fl : Byte → Flags) : (s.setFlags fl).cAlt = s.cAlt := rfl
@[simp] theorem State.setFlags_dAlt (s : State) (fl : Byte → Flags) : (s.setFlags fl).dAlt = s.dAlt := rfl
@[simp] theorem State.setFlags_eAlt (s : State) (fl : Byte → Flags) : (s.setFlags fl).eAlt = s.eAlt := rfl
@[simp] theorem State.setFlags_hAlt (s : State) (fl : Byte → Flags) : (s.setFlags fl).hAlt = s.hAlt := rfl
@[simp] theorem State.setFlags_lAlt (s : State) (fl : Byte → Flags) : (s.setFlags fl).lAlt = s.lAlt := rfl
@[simp] theorem State.setFlags_ix (s : State) (fl : Byte → Flags) : (s.setFlags fl).ix = s.ix := rfl
@[simp] theorem State.setFlags_iy (s : State) (fl : Byte → Flags) : (s.setFlags fl).iy = s.iy := rfl
@[simp] theorem State.setFlags_sp (s : State) (fl : Byte → Flags) : (s.setFlags fl).sp = s.sp := rfl
@[simp] theorem State.setFlags_pc (s : State) (fl : Byte → Flags) : (s.setFlags fl).pc = s.pc := rfl
@[simp] theorem State.setFlags_i (s : State) (fl : Byte → Flags) : (s.setFlags fl).i = s.i := rfl
@[simp] theorem State.setFlags_r (s : State) (fl : Byte → Flags) : (s.setFlags fl).r = s.r := rfl
@[simp] theorem State.setFlags_iff1 (s : State) (fl : Byte → Flags) : (s.setFlags fl).iff1 = s.iff1 := rfl
@[simp] theorem State.setFlags_iff2 (s : State) (fl : Byte → Flags) : (s.setFlags fl).iff2 = s.iff2 := rfl
@[simp] theorem State.setFlags_im (s : State) (fl : Byte → Flags) : (s.setFlags fl).im = s.im := rfl
@[simp] theorem State.setFlags_halted (s : State) (fl : Byte → Flags) : (s.setFlags fl).halted = s.halted := rfl
@[simp] theorem State.setFlags_nmiPending (s : State) (fl : Byte → Flags) : (s.setFlags fl).nmiPending = s.nmiPending := rfl
@[simp] theorem State.setFlags_eiShadow (s : State) (fl : Byte → Flags) : (s.setFlags fl).eiShadow = s.eiShadow := rfl
@[simp] theorem State.setFlags_busGranted (s : State) (fl : Byte → Flags) : (s.setFlags fl).busGranted = s.busGranted := rfl
@[simp] theorem State.setFlags_clockState (s : State) (fl : Byte → Flags) : (s.setFlags fl).clockState = s.clockState := rfl
@[simp] theorem State.setFlags_mem (s : State) (fl : Byte → Flags) : (s.setFlags fl).mem = s.mem := rfl
@[simp] theorem State.setFlags_memMap (s : State) (fl : Byte → Flags) : (s.setFlags fl).memMap = s.memMap := rfl
@[simp] theorem State.setFlags_ioMap (s : State) (fl : Byte → Flags) : (s.setFlags fl).ioMap = s.ioMap := rfl
@[simp] theorem State.setFlags_sleepBusack (s : State) (fl : Byte → Flags) : (s.setFlags fl).sleepBusack = s.sleepBusack := rfl
@[simp] theorem State.setFlags_pins (s : State) (fl : Byte → Flags) : (s.setFlags fl).pins = s.pins := rfl
@[simp] theorem State.setFlags_inputs (s : State) (fl : Byte → Flags) : (s.setFlags fl).inputs = s.inputs := rfl
@[simp] theorem State.setFlags_grants (s : State) (fl : Byte → Flags) : (s.setFlags fl).grants = s.grants := rfl
@[simp] theorem State.setFlags_dataIn (s : State) (fl : Byte → Flags) : (s.setFlags fl).dataIn = s.dataIn := rfl
@[simp] theorem State.setFlags_draws (s : State) (fl : Byte → Flags) : (s.setFlags fl).draws = s.draws + 1 := rfl
@[simp] theorem State.setFlags_trace (s : State) (fl : Byte → Flags) : (s.setFlags fl).trace = s.trace := rfl
@[simp] theorem State.setFlags_toFlags (s : State) (fl : Byte → Flags) : (s.setFlags fl).f.toFlags = fl s.draw.1 := rfl

/-! BC written. -/

@[simp] theorem State.setBC_a (s : State) (v : Word) : (s.setBC v).a = s.a := rfl
@[simp] theorem State.setBC_f (s : State) (v : Word) : (s.setBC v).f = s.f := rfl
@[simp] theorem State.setBC_b (s : State) (v : Word) : (s.setBC v).b = hiByte v := rfl
@[simp] theorem State.setBC_c (s : State) (v : Word) : (s.setBC v).c = loByte v := rfl
@[simp] theorem State.setBC_d (s : State) (v : Word) : (s.setBC v).d = s.d := rfl
@[simp] theorem State.setBC_e (s : State) (v : Word) : (s.setBC v).e = s.e := rfl
@[simp] theorem State.setBC_h (s : State) (v : Word) : (s.setBC v).h = s.h := rfl
@[simp] theorem State.setBC_l (s : State) (v : Word) : (s.setBC v).l = s.l := rfl
@[simp] theorem State.setBC_aAlt (s : State) (v : Word) : (s.setBC v).aAlt = s.aAlt := rfl
@[simp] theorem State.setBC_fAlt (s : State) (v : Word) : (s.setBC v).fAlt = s.fAlt := rfl
@[simp] theorem State.setBC_bAlt (s : State) (v : Word) : (s.setBC v).bAlt = s.bAlt := rfl
@[simp] theorem State.setBC_cAlt (s : State) (v : Word) : (s.setBC v).cAlt = s.cAlt := rfl
@[simp] theorem State.setBC_dAlt (s : State) (v : Word) : (s.setBC v).dAlt = s.dAlt := rfl
@[simp] theorem State.setBC_eAlt (s : State) (v : Word) : (s.setBC v).eAlt = s.eAlt := rfl
@[simp] theorem State.setBC_hAlt (s : State) (v : Word) : (s.setBC v).hAlt = s.hAlt := rfl
@[simp] theorem State.setBC_lAlt (s : State) (v : Word) : (s.setBC v).lAlt = s.lAlt := rfl
@[simp] theorem State.setBC_ix (s : State) (v : Word) : (s.setBC v).ix = s.ix := rfl
@[simp] theorem State.setBC_iy (s : State) (v : Word) : (s.setBC v).iy = s.iy := rfl
@[simp] theorem State.setBC_sp (s : State) (v : Word) : (s.setBC v).sp = s.sp := rfl
@[simp] theorem State.setBC_pc (s : State) (v : Word) : (s.setBC v).pc = s.pc := rfl
@[simp] theorem State.setBC_i (s : State) (v : Word) : (s.setBC v).i = s.i := rfl
@[simp] theorem State.setBC_r (s : State) (v : Word) : (s.setBC v).r = s.r := rfl
@[simp] theorem State.setBC_iff1 (s : State) (v : Word) : (s.setBC v).iff1 = s.iff1 := rfl
@[simp] theorem State.setBC_iff2 (s : State) (v : Word) : (s.setBC v).iff2 = s.iff2 := rfl
@[simp] theorem State.setBC_im (s : State) (v : Word) : (s.setBC v).im = s.im := rfl
@[simp] theorem State.setBC_halted (s : State) (v : Word) : (s.setBC v).halted = s.halted := rfl
@[simp] theorem State.setBC_nmiPending (s : State) (v : Word) : (s.setBC v).nmiPending = s.nmiPending := rfl
@[simp] theorem State.setBC_eiShadow (s : State) (v : Word) : (s.setBC v).eiShadow = s.eiShadow := rfl
@[simp] theorem State.setBC_busGranted (s : State) (v : Word) : (s.setBC v).busGranted = s.busGranted := rfl
@[simp] theorem State.setBC_clockState (s : State) (v : Word) : (s.setBC v).clockState = s.clockState := rfl
@[simp] theorem State.setBC_mem (s : State) (v : Word) : (s.setBC v).mem = s.mem := rfl
@[simp] theorem State.setBC_memMap (s : State) (v : Word) : (s.setBC v).memMap = s.memMap := rfl
@[simp] theorem State.setBC_ioMap (s : State) (v : Word) : (s.setBC v).ioMap = s.ioMap := rfl
@[simp] theorem State.setBC_sleepBusack (s : State) (v : Word) : (s.setBC v).sleepBusack = s.sleepBusack := rfl
@[simp] theorem State.setBC_pins (s : State) (v : Word) : (s.setBC v).pins = s.pins := rfl
@[simp] theorem State.setBC_inputs (s : State) (v : Word) : (s.setBC v).inputs = s.inputs := rfl
@[simp] theorem State.setBC_grants (s : State) (v : Word) : (s.setBC v).grants = s.grants := rfl
@[simp] theorem State.setBC_dataIn (s : State) (v : Word) : (s.setBC v).dataIn = s.dataIn := rfl
@[simp] theorem State.setBC_draws (s : State) (v : Word) : (s.setBC v).draws = s.draws := rfl
@[simp] theorem State.setBC_trace (s : State) (v : Word) : (s.setBC v).trace = s.trace := rfl

/-! DE written. -/

@[simp] theorem State.setDE_a (s : State) (v : Word) : (s.setDE v).a = s.a := rfl
@[simp] theorem State.setDE_f (s : State) (v : Word) : (s.setDE v).f = s.f := rfl
@[simp] theorem State.setDE_b (s : State) (v : Word) : (s.setDE v).b = s.b := rfl
@[simp] theorem State.setDE_c (s : State) (v : Word) : (s.setDE v).c = s.c := rfl
@[simp] theorem State.setDE_d (s : State) (v : Word) : (s.setDE v).d = hiByte v := rfl
@[simp] theorem State.setDE_e (s : State) (v : Word) : (s.setDE v).e = loByte v := rfl
@[simp] theorem State.setDE_h (s : State) (v : Word) : (s.setDE v).h = s.h := rfl
@[simp] theorem State.setDE_l (s : State) (v : Word) : (s.setDE v).l = s.l := rfl
@[simp] theorem State.setDE_aAlt (s : State) (v : Word) : (s.setDE v).aAlt = s.aAlt := rfl
@[simp] theorem State.setDE_fAlt (s : State) (v : Word) : (s.setDE v).fAlt = s.fAlt := rfl
@[simp] theorem State.setDE_bAlt (s : State) (v : Word) : (s.setDE v).bAlt = s.bAlt := rfl
@[simp] theorem State.setDE_cAlt (s : State) (v : Word) : (s.setDE v).cAlt = s.cAlt := rfl
@[simp] theorem State.setDE_dAlt (s : State) (v : Word) : (s.setDE v).dAlt = s.dAlt := rfl
@[simp] theorem State.setDE_eAlt (s : State) (v : Word) : (s.setDE v).eAlt = s.eAlt := rfl
@[simp] theorem State.setDE_hAlt (s : State) (v : Word) : (s.setDE v).hAlt = s.hAlt := rfl
@[simp] theorem State.setDE_lAlt (s : State) (v : Word) : (s.setDE v).lAlt = s.lAlt := rfl
@[simp] theorem State.setDE_ix (s : State) (v : Word) : (s.setDE v).ix = s.ix := rfl
@[simp] theorem State.setDE_iy (s : State) (v : Word) : (s.setDE v).iy = s.iy := rfl
@[simp] theorem State.setDE_sp (s : State) (v : Word) : (s.setDE v).sp = s.sp := rfl
@[simp] theorem State.setDE_pc (s : State) (v : Word) : (s.setDE v).pc = s.pc := rfl
@[simp] theorem State.setDE_i (s : State) (v : Word) : (s.setDE v).i = s.i := rfl
@[simp] theorem State.setDE_r (s : State) (v : Word) : (s.setDE v).r = s.r := rfl
@[simp] theorem State.setDE_iff1 (s : State) (v : Word) : (s.setDE v).iff1 = s.iff1 := rfl
@[simp] theorem State.setDE_iff2 (s : State) (v : Word) : (s.setDE v).iff2 = s.iff2 := rfl
@[simp] theorem State.setDE_im (s : State) (v : Word) : (s.setDE v).im = s.im := rfl
@[simp] theorem State.setDE_halted (s : State) (v : Word) : (s.setDE v).halted = s.halted := rfl
@[simp] theorem State.setDE_nmiPending (s : State) (v : Word) : (s.setDE v).nmiPending = s.nmiPending := rfl
@[simp] theorem State.setDE_eiShadow (s : State) (v : Word) : (s.setDE v).eiShadow = s.eiShadow := rfl
@[simp] theorem State.setDE_busGranted (s : State) (v : Word) : (s.setDE v).busGranted = s.busGranted := rfl
@[simp] theorem State.setDE_clockState (s : State) (v : Word) : (s.setDE v).clockState = s.clockState := rfl
@[simp] theorem State.setDE_mem (s : State) (v : Word) : (s.setDE v).mem = s.mem := rfl
@[simp] theorem State.setDE_memMap (s : State) (v : Word) : (s.setDE v).memMap = s.memMap := rfl
@[simp] theorem State.setDE_ioMap (s : State) (v : Word) : (s.setDE v).ioMap = s.ioMap := rfl
@[simp] theorem State.setDE_sleepBusack (s : State) (v : Word) : (s.setDE v).sleepBusack = s.sleepBusack := rfl
@[simp] theorem State.setDE_pins (s : State) (v : Word) : (s.setDE v).pins = s.pins := rfl
@[simp] theorem State.setDE_inputs (s : State) (v : Word) : (s.setDE v).inputs = s.inputs := rfl
@[simp] theorem State.setDE_grants (s : State) (v : Word) : (s.setDE v).grants = s.grants := rfl
@[simp] theorem State.setDE_dataIn (s : State) (v : Word) : (s.setDE v).dataIn = s.dataIn := rfl
@[simp] theorem State.setDE_draws (s : State) (v : Word) : (s.setDE v).draws = s.draws := rfl
@[simp] theorem State.setDE_trace (s : State) (v : Word) : (s.setDE v).trace = s.trace := rfl

/-! HL written. -/

@[simp] theorem State.setHL_a (s : State) (v : Word) : (s.setHL v).a = s.a := rfl
@[simp] theorem State.setHL_f (s : State) (v : Word) : (s.setHL v).f = s.f := rfl
@[simp] theorem State.setHL_b (s : State) (v : Word) : (s.setHL v).b = s.b := rfl
@[simp] theorem State.setHL_c (s : State) (v : Word) : (s.setHL v).c = s.c := rfl
@[simp] theorem State.setHL_d (s : State) (v : Word) : (s.setHL v).d = s.d := rfl
@[simp] theorem State.setHL_e (s : State) (v : Word) : (s.setHL v).e = s.e := rfl
@[simp] theorem State.setHL_h (s : State) (v : Word) : (s.setHL v).h = hiByte v := rfl
@[simp] theorem State.setHL_l (s : State) (v : Word) : (s.setHL v).l = loByte v := rfl
@[simp] theorem State.setHL_aAlt (s : State) (v : Word) : (s.setHL v).aAlt = s.aAlt := rfl
@[simp] theorem State.setHL_fAlt (s : State) (v : Word) : (s.setHL v).fAlt = s.fAlt := rfl
@[simp] theorem State.setHL_bAlt (s : State) (v : Word) : (s.setHL v).bAlt = s.bAlt := rfl
@[simp] theorem State.setHL_cAlt (s : State) (v : Word) : (s.setHL v).cAlt = s.cAlt := rfl
@[simp] theorem State.setHL_dAlt (s : State) (v : Word) : (s.setHL v).dAlt = s.dAlt := rfl
@[simp] theorem State.setHL_eAlt (s : State) (v : Word) : (s.setHL v).eAlt = s.eAlt := rfl
@[simp] theorem State.setHL_hAlt (s : State) (v : Word) : (s.setHL v).hAlt = s.hAlt := rfl
@[simp] theorem State.setHL_lAlt (s : State) (v : Word) : (s.setHL v).lAlt = s.lAlt := rfl
@[simp] theorem State.setHL_ix (s : State) (v : Word) : (s.setHL v).ix = s.ix := rfl
@[simp] theorem State.setHL_iy (s : State) (v : Word) : (s.setHL v).iy = s.iy := rfl
@[simp] theorem State.setHL_sp (s : State) (v : Word) : (s.setHL v).sp = s.sp := rfl
@[simp] theorem State.setHL_pc (s : State) (v : Word) : (s.setHL v).pc = s.pc := rfl
@[simp] theorem State.setHL_i (s : State) (v : Word) : (s.setHL v).i = s.i := rfl
@[simp] theorem State.setHL_r (s : State) (v : Word) : (s.setHL v).r = s.r := rfl
@[simp] theorem State.setHL_iff1 (s : State) (v : Word) : (s.setHL v).iff1 = s.iff1 := rfl
@[simp] theorem State.setHL_iff2 (s : State) (v : Word) : (s.setHL v).iff2 = s.iff2 := rfl
@[simp] theorem State.setHL_im (s : State) (v : Word) : (s.setHL v).im = s.im := rfl
@[simp] theorem State.setHL_halted (s : State) (v : Word) : (s.setHL v).halted = s.halted := rfl
@[simp] theorem State.setHL_nmiPending (s : State) (v : Word) : (s.setHL v).nmiPending = s.nmiPending := rfl
@[simp] theorem State.setHL_eiShadow (s : State) (v : Word) : (s.setHL v).eiShadow = s.eiShadow := rfl
@[simp] theorem State.setHL_busGranted (s : State) (v : Word) : (s.setHL v).busGranted = s.busGranted := rfl
@[simp] theorem State.setHL_clockState (s : State) (v : Word) : (s.setHL v).clockState = s.clockState := rfl
@[simp] theorem State.setHL_mem (s : State) (v : Word) : (s.setHL v).mem = s.mem := rfl
@[simp] theorem State.setHL_memMap (s : State) (v : Word) : (s.setHL v).memMap = s.memMap := rfl
@[simp] theorem State.setHL_ioMap (s : State) (v : Word) : (s.setHL v).ioMap = s.ioMap := rfl
@[simp] theorem State.setHL_sleepBusack (s : State) (v : Word) : (s.setHL v).sleepBusack = s.sleepBusack := rfl
@[simp] theorem State.setHL_pins (s : State) (v : Word) : (s.setHL v).pins = s.pins := rfl
@[simp] theorem State.setHL_inputs (s : State) (v : Word) : (s.setHL v).inputs = s.inputs := rfl
@[simp] theorem State.setHL_grants (s : State) (v : Word) : (s.setHL v).grants = s.grants := rfl
@[simp] theorem State.setHL_dataIn (s : State) (v : Word) : (s.setHL v).dataIn = s.dataIn := rfl
@[simp] theorem State.setHL_draws (s : State) (v : Word) : (s.setHL v).draws = s.draws := rfl
@[simp] theorem State.setHL_trace (s : State) (v : Word) : (s.setHL v).trace = s.trace := rfl

/-! AF written. -/

@[simp] theorem State.setAF_a (s : State) (v : Word) : (s.setAF v).a = hiByte v := rfl
@[simp] theorem State.setAF_f (s : State) (v : Word) : (s.setAF v).f = FlagReg.ofByte (loByte v) := rfl
@[simp] theorem State.setAF_b (s : State) (v : Word) : (s.setAF v).b = s.b := rfl
@[simp] theorem State.setAF_c (s : State) (v : Word) : (s.setAF v).c = s.c := rfl
@[simp] theorem State.setAF_d (s : State) (v : Word) : (s.setAF v).d = s.d := rfl
@[simp] theorem State.setAF_e (s : State) (v : Word) : (s.setAF v).e = s.e := rfl
@[simp] theorem State.setAF_h (s : State) (v : Word) : (s.setAF v).h = s.h := rfl
@[simp] theorem State.setAF_l (s : State) (v : Word) : (s.setAF v).l = s.l := rfl
@[simp] theorem State.setAF_aAlt (s : State) (v : Word) : (s.setAF v).aAlt = s.aAlt := rfl
@[simp] theorem State.setAF_fAlt (s : State) (v : Word) : (s.setAF v).fAlt = s.fAlt := rfl
@[simp] theorem State.setAF_bAlt (s : State) (v : Word) : (s.setAF v).bAlt = s.bAlt := rfl
@[simp] theorem State.setAF_cAlt (s : State) (v : Word) : (s.setAF v).cAlt = s.cAlt := rfl
@[simp] theorem State.setAF_dAlt (s : State) (v : Word) : (s.setAF v).dAlt = s.dAlt := rfl
@[simp] theorem State.setAF_eAlt (s : State) (v : Word) : (s.setAF v).eAlt = s.eAlt := rfl
@[simp] theorem State.setAF_hAlt (s : State) (v : Word) : (s.setAF v).hAlt = s.hAlt := rfl
@[simp] theorem State.setAF_lAlt (s : State) (v : Word) : (s.setAF v).lAlt = s.lAlt := rfl
@[simp] theorem State.setAF_ix (s : State) (v : Word) : (s.setAF v).ix = s.ix := rfl
@[simp] theorem State.setAF_iy (s : State) (v : Word) : (s.setAF v).iy = s.iy := rfl
@[simp] theorem State.setAF_sp (s : State) (v : Word) : (s.setAF v).sp = s.sp := rfl
@[simp] theorem State.setAF_pc (s : State) (v : Word) : (s.setAF v).pc = s.pc := rfl
@[simp] theorem State.setAF_i (s : State) (v : Word) : (s.setAF v).i = s.i := rfl
@[simp] theorem State.setAF_r (s : State) (v : Word) : (s.setAF v).r = s.r := rfl
@[simp] theorem State.setAF_iff1 (s : State) (v : Word) : (s.setAF v).iff1 = s.iff1 := rfl
@[simp] theorem State.setAF_iff2 (s : State) (v : Word) : (s.setAF v).iff2 = s.iff2 := rfl
@[simp] theorem State.setAF_im (s : State) (v : Word) : (s.setAF v).im = s.im := rfl
@[simp] theorem State.setAF_halted (s : State) (v : Word) : (s.setAF v).halted = s.halted := rfl
@[simp] theorem State.setAF_nmiPending (s : State) (v : Word) : (s.setAF v).nmiPending = s.nmiPending := rfl
@[simp] theorem State.setAF_eiShadow (s : State) (v : Word) : (s.setAF v).eiShadow = s.eiShadow := rfl
@[simp] theorem State.setAF_busGranted (s : State) (v : Word) : (s.setAF v).busGranted = s.busGranted := rfl
@[simp] theorem State.setAF_clockState (s : State) (v : Word) : (s.setAF v).clockState = s.clockState := rfl
@[simp] theorem State.setAF_mem (s : State) (v : Word) : (s.setAF v).mem = s.mem := rfl
@[simp] theorem State.setAF_memMap (s : State) (v : Word) : (s.setAF v).memMap = s.memMap := rfl
@[simp] theorem State.setAF_ioMap (s : State) (v : Word) : (s.setAF v).ioMap = s.ioMap := rfl
@[simp] theorem State.setAF_sleepBusack (s : State) (v : Word) : (s.setAF v).sleepBusack = s.sleepBusack := rfl
@[simp] theorem State.setAF_pins (s : State) (v : Word) : (s.setAF v).pins = s.pins := rfl
@[simp] theorem State.setAF_inputs (s : State) (v : Word) : (s.setAF v).inputs = s.inputs := rfl
@[simp] theorem State.setAF_grants (s : State) (v : Word) : (s.setAF v).grants = s.grants := rfl
@[simp] theorem State.setAF_dataIn (s : State) (v : Word) : (s.setAF v).dataIn = s.dataIn := rfl
@[simp] theorem State.setAF_draws (s : State) (v : Word) : (s.setAF v).draws = s.draws := rfl
@[simp] theorem State.setAF_trace (s : State) (v : Word) : (s.setAF v).trace = s.trace := rfl

/-! An 8-bit register written. -/

@[simp] theorem State.setReg8_f (s : State) (r : R8) (v : Byte) : (s.setReg8 r v).f = s.f := by cases r <;> rfl
@[simp] theorem State.setReg8_aAlt (s : State) (r : R8) (v : Byte) : (s.setReg8 r v).aAlt = s.aAlt := by cases r <;> rfl
@[simp] theorem State.setReg8_fAlt (s : State) (r : R8) (v : Byte) : (s.setReg8 r v).fAlt = s.fAlt := by cases r <;> rfl
@[simp] theorem State.setReg8_bAlt (s : State) (r : R8) (v : Byte) : (s.setReg8 r v).bAlt = s.bAlt := by cases r <;> rfl
@[simp] theorem State.setReg8_cAlt (s : State) (r : R8) (v : Byte) : (s.setReg8 r v).cAlt = s.cAlt := by cases r <;> rfl
@[simp] theorem State.setReg8_dAlt (s : State) (r : R8) (v : Byte) : (s.setReg8 r v).dAlt = s.dAlt := by cases r <;> rfl
@[simp] theorem State.setReg8_eAlt (s : State) (r : R8) (v : Byte) : (s.setReg8 r v).eAlt = s.eAlt := by cases r <;> rfl
@[simp] theorem State.setReg8_hAlt (s : State) (r : R8) (v : Byte) : (s.setReg8 r v).hAlt = s.hAlt := by cases r <;> rfl
@[simp] theorem State.setReg8_lAlt (s : State) (r : R8) (v : Byte) : (s.setReg8 r v).lAlt = s.lAlt := by cases r <;> rfl
@[simp] theorem State.setReg8_ix (s : State) (r : R8) (v : Byte) : (s.setReg8 r v).ix = s.ix := by cases r <;> rfl
@[simp] theorem State.setReg8_iy (s : State) (r : R8) (v : Byte) : (s.setReg8 r v).iy = s.iy := by cases r <;> rfl
@[simp] theorem State.setReg8_sp (s : State) (r : R8) (v : Byte) : (s.setReg8 r v).sp = s.sp := by cases r <;> rfl
@[simp] theorem State.setReg8_pc (s : State) (r : R8) (v : Byte) : (s.setReg8 r v).pc = s.pc := by cases r <;> rfl
@[simp] theorem State.setReg8_i (s : State) (r : R8) (v : Byte) : (s.setReg8 r v).i = s.i := by cases r <;> rfl
@[simp] theorem State.setReg8_r (s : State) (r : R8) (v : Byte) : (s.setReg8 r v).r = s.r := by cases r <;> rfl
@[simp] theorem State.setReg8_iff1 (s : State) (r : R8) (v : Byte) : (s.setReg8 r v).iff1 = s.iff1 := by cases r <;> rfl
@[simp] theorem State.setReg8_iff2 (s : State) (r : R8) (v : Byte) : (s.setReg8 r v).iff2 = s.iff2 := by cases r <;> rfl
@[simp] theorem State.setReg8_im (s : State) (r : R8) (v : Byte) : (s.setReg8 r v).im = s.im := by cases r <;> rfl
@[simp] theorem State.setReg8_halted (s : State) (r : R8) (v : Byte) : (s.setReg8 r v).halted = s.halted := by cases r <;> rfl
@[simp] theorem State.setReg8_nmiPending (s : State) (r : R8) (v : Byte) : (s.setReg8 r v).nmiPending = s.nmiPending := by cases r <;> rfl
@[simp] theorem State.setReg8_eiShadow (s : State) (r : R8) (v : Byte) : (s.setReg8 r v).eiShadow = s.eiShadow := by cases r <;> rfl
@[simp] theorem State.setReg8_busGranted (s : State) (r : R8) (v : Byte) : (s.setReg8 r v).busGranted = s.busGranted := by cases r <;> rfl
@[simp] theorem State.setReg8_clockState (s : State) (r : R8) (v : Byte) : (s.setReg8 r v).clockState = s.clockState := by cases r <;> rfl
@[simp] theorem State.setReg8_mem (s : State) (r : R8) (v : Byte) : (s.setReg8 r v).mem = s.mem := by cases r <;> rfl
@[simp] theorem State.setReg8_memMap (s : State) (r : R8) (v : Byte) : (s.setReg8 r v).memMap = s.memMap := by cases r <;> rfl
@[simp] theorem State.setReg8_ioMap (s : State) (r : R8) (v : Byte) : (s.setReg8 r v).ioMap = s.ioMap := by cases r <;> rfl
@[simp] theorem State.setReg8_sleepBusack (s : State) (r : R8) (v : Byte) : (s.setReg8 r v).sleepBusack = s.sleepBusack := by cases r <;> rfl
@[simp] theorem State.setReg8_pins (s : State) (r : R8) (v : Byte) : (s.setReg8 r v).pins = s.pins := by cases r <;> rfl
@[simp] theorem State.setReg8_inputs (s : State) (r : R8) (v : Byte) : (s.setReg8 r v).inputs = s.inputs := by cases r <;> rfl
@[simp] theorem State.setReg8_grants (s : State) (r : R8) (v : Byte) : (s.setReg8 r v).grants = s.grants := by cases r <;> rfl
@[simp] theorem State.setReg8_dataIn (s : State) (r : R8) (v : Byte) : (s.setReg8 r v).dataIn = s.dataIn := by cases r <;> rfl
@[simp] theorem State.setReg8_draws (s : State) (r : R8) (v : Byte) : (s.setReg8 r v).draws = s.draws := by cases r <;> rfl
@[simp] theorem State.setReg8_trace (s : State) (r : R8) (v : Byte) : (s.setReg8 r v).trace = s.trace := by cases r <;> rfl

/-! A pair dd written. -/

@[simp] theorem State.setRegDD_a (s : State) (p : RegDD) (v : Word) : (s.setRegDD p v).a = s.a := by cases p <;> rfl
@[simp] theorem State.setRegDD_f (s : State) (p : RegDD) (v : Word) : (s.setRegDD p v).f = s.f := by cases p <;> rfl
@[simp] theorem State.setRegDD_aAlt (s : State) (p : RegDD) (v : Word) : (s.setRegDD p v).aAlt = s.aAlt := by cases p <;> rfl
@[simp] theorem State.setRegDD_fAlt (s : State) (p : RegDD) (v : Word) : (s.setRegDD p v).fAlt = s.fAlt := by cases p <;> rfl
@[simp] theorem State.setRegDD_bAlt (s : State) (p : RegDD) (v : Word) : (s.setRegDD p v).bAlt = s.bAlt := by cases p <;> rfl
@[simp] theorem State.setRegDD_cAlt (s : State) (p : RegDD) (v : Word) : (s.setRegDD p v).cAlt = s.cAlt := by cases p <;> rfl
@[simp] theorem State.setRegDD_dAlt (s : State) (p : RegDD) (v : Word) : (s.setRegDD p v).dAlt = s.dAlt := by cases p <;> rfl
@[simp] theorem State.setRegDD_eAlt (s : State) (p : RegDD) (v : Word) : (s.setRegDD p v).eAlt = s.eAlt := by cases p <;> rfl
@[simp] theorem State.setRegDD_hAlt (s : State) (p : RegDD) (v : Word) : (s.setRegDD p v).hAlt = s.hAlt := by cases p <;> rfl
@[simp] theorem State.setRegDD_lAlt (s : State) (p : RegDD) (v : Word) : (s.setRegDD p v).lAlt = s.lAlt := by cases p <;> rfl
@[simp] theorem State.setRegDD_ix (s : State) (p : RegDD) (v : Word) : (s.setRegDD p v).ix = s.ix := by cases p <;> rfl
@[simp] theorem State.setRegDD_iy (s : State) (p : RegDD) (v : Word) : (s.setRegDD p v).iy = s.iy := by cases p <;> rfl
@[simp] theorem State.setRegDD_pc (s : State) (p : RegDD) (v : Word) : (s.setRegDD p v).pc = s.pc := by cases p <;> rfl
@[simp] theorem State.setRegDD_i (s : State) (p : RegDD) (v : Word) : (s.setRegDD p v).i = s.i := by cases p <;> rfl
@[simp] theorem State.setRegDD_r (s : State) (p : RegDD) (v : Word) : (s.setRegDD p v).r = s.r := by cases p <;> rfl
@[simp] theorem State.setRegDD_iff1 (s : State) (p : RegDD) (v : Word) : (s.setRegDD p v).iff1 = s.iff1 := by cases p <;> rfl
@[simp] theorem State.setRegDD_iff2 (s : State) (p : RegDD) (v : Word) : (s.setRegDD p v).iff2 = s.iff2 := by cases p <;> rfl
@[simp] theorem State.setRegDD_im (s : State) (p : RegDD) (v : Word) : (s.setRegDD p v).im = s.im := by cases p <;> rfl
@[simp] theorem State.setRegDD_halted (s : State) (p : RegDD) (v : Word) : (s.setRegDD p v).halted = s.halted := by cases p <;> rfl
@[simp] theorem State.setRegDD_nmiPending (s : State) (p : RegDD) (v : Word) : (s.setRegDD p v).nmiPending = s.nmiPending := by cases p <;> rfl
@[simp] theorem State.setRegDD_eiShadow (s : State) (p : RegDD) (v : Word) : (s.setRegDD p v).eiShadow = s.eiShadow := by cases p <;> rfl
@[simp] theorem State.setRegDD_busGranted (s : State) (p : RegDD) (v : Word) : (s.setRegDD p v).busGranted = s.busGranted := by cases p <;> rfl
@[simp] theorem State.setRegDD_clockState (s : State) (p : RegDD) (v : Word) : (s.setRegDD p v).clockState = s.clockState := by cases p <;> rfl
@[simp] theorem State.setRegDD_mem (s : State) (p : RegDD) (v : Word) : (s.setRegDD p v).mem = s.mem := by cases p <;> rfl
@[simp] theorem State.setRegDD_memMap (s : State) (p : RegDD) (v : Word) : (s.setRegDD p v).memMap = s.memMap := by cases p <;> rfl
@[simp] theorem State.setRegDD_ioMap (s : State) (p : RegDD) (v : Word) : (s.setRegDD p v).ioMap = s.ioMap := by cases p <;> rfl
@[simp] theorem State.setRegDD_sleepBusack (s : State) (p : RegDD) (v : Word) : (s.setRegDD p v).sleepBusack = s.sleepBusack := by cases p <;> rfl
@[simp] theorem State.setRegDD_pins (s : State) (p : RegDD) (v : Word) : (s.setRegDD p v).pins = s.pins := by cases p <;> rfl
@[simp] theorem State.setRegDD_inputs (s : State) (p : RegDD) (v : Word) : (s.setRegDD p v).inputs = s.inputs := by cases p <;> rfl
@[simp] theorem State.setRegDD_grants (s : State) (p : RegDD) (v : Word) : (s.setRegDD p v).grants = s.grants := by cases p <;> rfl
@[simp] theorem State.setRegDD_dataIn (s : State) (p : RegDD) (v : Word) : (s.setRegDD p v).dataIn = s.dataIn := by cases p <;> rfl
@[simp] theorem State.setRegDD_draws (s : State) (p : RegDD) (v : Word) : (s.setRegDD p v).draws = s.draws := by cases p <;> rfl
@[simp] theorem State.setRegDD_trace (s : State) (p : RegDD) (v : Word) : (s.setRegDD p v).trace = s.trace := by cases p <;> rfl

/-! A pair qq written. -/

@[simp] theorem State.setRegQQ_aAlt (s : State) (p : RegQQ) (v : Word) : (s.setRegQQ p v).aAlt = s.aAlt := by cases p <;> rfl
@[simp] theorem State.setRegQQ_fAlt (s : State) (p : RegQQ) (v : Word) : (s.setRegQQ p v).fAlt = s.fAlt := by cases p <;> rfl
@[simp] theorem State.setRegQQ_bAlt (s : State) (p : RegQQ) (v : Word) : (s.setRegQQ p v).bAlt = s.bAlt := by cases p <;> rfl
@[simp] theorem State.setRegQQ_cAlt (s : State) (p : RegQQ) (v : Word) : (s.setRegQQ p v).cAlt = s.cAlt := by cases p <;> rfl
@[simp] theorem State.setRegQQ_dAlt (s : State) (p : RegQQ) (v : Word) : (s.setRegQQ p v).dAlt = s.dAlt := by cases p <;> rfl
@[simp] theorem State.setRegQQ_eAlt (s : State) (p : RegQQ) (v : Word) : (s.setRegQQ p v).eAlt = s.eAlt := by cases p <;> rfl
@[simp] theorem State.setRegQQ_hAlt (s : State) (p : RegQQ) (v : Word) : (s.setRegQQ p v).hAlt = s.hAlt := by cases p <;> rfl
@[simp] theorem State.setRegQQ_lAlt (s : State) (p : RegQQ) (v : Word) : (s.setRegQQ p v).lAlt = s.lAlt := by cases p <;> rfl
@[simp] theorem State.setRegQQ_ix (s : State) (p : RegQQ) (v : Word) : (s.setRegQQ p v).ix = s.ix := by cases p <;> rfl
@[simp] theorem State.setRegQQ_iy (s : State) (p : RegQQ) (v : Word) : (s.setRegQQ p v).iy = s.iy := by cases p <;> rfl
@[simp] theorem State.setRegQQ_sp (s : State) (p : RegQQ) (v : Word) : (s.setRegQQ p v).sp = s.sp := by cases p <;> rfl
@[simp] theorem State.setRegQQ_pc (s : State) (p : RegQQ) (v : Word) : (s.setRegQQ p v).pc = s.pc := by cases p <;> rfl
@[simp] theorem State.setRegQQ_i (s : State) (p : RegQQ) (v : Word) : (s.setRegQQ p v).i = s.i := by cases p <;> rfl
@[simp] theorem State.setRegQQ_r (s : State) (p : RegQQ) (v : Word) : (s.setRegQQ p v).r = s.r := by cases p <;> rfl
@[simp] theorem State.setRegQQ_iff1 (s : State) (p : RegQQ) (v : Word) : (s.setRegQQ p v).iff1 = s.iff1 := by cases p <;> rfl
@[simp] theorem State.setRegQQ_iff2 (s : State) (p : RegQQ) (v : Word) : (s.setRegQQ p v).iff2 = s.iff2 := by cases p <;> rfl
@[simp] theorem State.setRegQQ_im (s : State) (p : RegQQ) (v : Word) : (s.setRegQQ p v).im = s.im := by cases p <;> rfl
@[simp] theorem State.setRegQQ_halted (s : State) (p : RegQQ) (v : Word) : (s.setRegQQ p v).halted = s.halted := by cases p <;> rfl
@[simp] theorem State.setRegQQ_nmiPending (s : State) (p : RegQQ) (v : Word) : (s.setRegQQ p v).nmiPending = s.nmiPending := by cases p <;> rfl
@[simp] theorem State.setRegQQ_eiShadow (s : State) (p : RegQQ) (v : Word) : (s.setRegQQ p v).eiShadow = s.eiShadow := by cases p <;> rfl
@[simp] theorem State.setRegQQ_busGranted (s : State) (p : RegQQ) (v : Word) : (s.setRegQQ p v).busGranted = s.busGranted := by cases p <;> rfl
@[simp] theorem State.setRegQQ_clockState (s : State) (p : RegQQ) (v : Word) : (s.setRegQQ p v).clockState = s.clockState := by cases p <;> rfl
@[simp] theorem State.setRegQQ_mem (s : State) (p : RegQQ) (v : Word) : (s.setRegQQ p v).mem = s.mem := by cases p <;> rfl
@[simp] theorem State.setRegQQ_memMap (s : State) (p : RegQQ) (v : Word) : (s.setRegQQ p v).memMap = s.memMap := by cases p <;> rfl
@[simp] theorem State.setRegQQ_ioMap (s : State) (p : RegQQ) (v : Word) : (s.setRegQQ p v).ioMap = s.ioMap := by cases p <;> rfl
@[simp] theorem State.setRegQQ_sleepBusack (s : State) (p : RegQQ) (v : Word) : (s.setRegQQ p v).sleepBusack = s.sleepBusack := by cases p <;> rfl
@[simp] theorem State.setRegQQ_pins (s : State) (p : RegQQ) (v : Word) : (s.setRegQQ p v).pins = s.pins := by cases p <;> rfl
@[simp] theorem State.setRegQQ_inputs (s : State) (p : RegQQ) (v : Word) : (s.setRegQQ p v).inputs = s.inputs := by cases p <;> rfl
@[simp] theorem State.setRegQQ_grants (s : State) (p : RegQQ) (v : Word) : (s.setRegQQ p v).grants = s.grants := by cases p <;> rfl
@[simp] theorem State.setRegQQ_dataIn (s : State) (p : RegQQ) (v : Word) : (s.setRegQQ p v).dataIn = s.dataIn := by cases p <;> rfl
@[simp] theorem State.setRegQQ_draws (s : State) (p : RegQQ) (v : Word) : (s.setRegQQ p v).draws = s.draws := by cases p <;> rfl
@[simp] theorem State.setRegQQ_trace (s : State) (p : RegQQ) (v : Word) : (s.setRegQQ p v).trace = s.trace := by cases p <;> rfl

/-! A relative jump. -/

@[simp] theorem State.jumpRel_a (s : State) (e : Byte) : (s.jumpRel e).a = s.a := rfl
@[simp] theorem State.jumpRel_f (s : State) (e : Byte) : (s.jumpRel e).f = s.f := rfl
@[simp] theorem State.jumpRel_b (s : State) (e : Byte) : (s.jumpRel e).b = s.b := rfl
@[simp] theorem State.jumpRel_c (s : State) (e : Byte) : (s.jumpRel e).c = s.c := rfl
@[simp] theorem State.jumpRel_d (s : State) (e : Byte) : (s.jumpRel e).d = s.d := rfl
@[simp] theorem State.jumpRel_e (s : State) (e : Byte) : (s.jumpRel e).e = s.e := rfl
@[simp] theorem State.jumpRel_h (s : State) (e : Byte) : (s.jumpRel e).h = s.h := rfl
@[simp] theorem State.jumpRel_l (s : State) (e : Byte) : (s.jumpRel e).l = s.l := rfl
@[simp] theorem State.jumpRel_aAlt (s : State) (e : Byte) : (s.jumpRel e).aAlt = s.aAlt := rfl
@[simp] theorem State.jumpRel_fAlt (s : State) (e : Byte) : (s.jumpRel e).fAlt = s.fAlt := rfl
@[simp] theorem State.jumpRel_bAlt (s : State) (e : Byte) : (s.jumpRel e).bAlt = s.bAlt := rfl
@[simp] theorem State.jumpRel_cAlt (s : State) (e : Byte) : (s.jumpRel e).cAlt = s.cAlt := rfl
@[simp] theorem State.jumpRel_dAlt (s : State) (e : Byte) : (s.jumpRel e).dAlt = s.dAlt := rfl
@[simp] theorem State.jumpRel_eAlt (s : State) (e : Byte) : (s.jumpRel e).eAlt = s.eAlt := rfl
@[simp] theorem State.jumpRel_hAlt (s : State) (e : Byte) : (s.jumpRel e).hAlt = s.hAlt := rfl
@[simp] theorem State.jumpRel_lAlt (s : State) (e : Byte) : (s.jumpRel e).lAlt = s.lAlt := rfl
@[simp] theorem State.jumpRel_ix (s : State) (e : Byte) : (s.jumpRel e).ix = s.ix := rfl
@[simp] theorem State.jumpRel_iy (s : State) (e : Byte) : (s.jumpRel e).iy = s.iy := rfl
@[simp] theorem State.jumpRel_sp (s : State) (e : Byte) : (s.jumpRel e).sp = s.sp := rfl
@[simp] theorem State.jumpRel_pc (s : State) (e : Byte) : (s.jumpRel e).pc = s.pc + sext16 e := rfl
@[simp] theorem State.jumpRel_i (s : State) (e : Byte) : (s.jumpRel e).i = s.i := rfl
@[simp] theorem State.jumpRel_r (s : State) (e : Byte) : (s.jumpRel e).r = s.r := rfl
@[simp] theorem State.jumpRel_iff1 (s : State) (e : Byte) : (s.jumpRel e).iff1 = s.iff1 := rfl
@[simp] theorem State.jumpRel_iff2 (s : State) (e : Byte) : (s.jumpRel e).iff2 = s.iff2 := rfl
@[simp] theorem State.jumpRel_im (s : State) (e : Byte) : (s.jumpRel e).im = s.im := rfl
@[simp] theorem State.jumpRel_halted (s : State) (e : Byte) : (s.jumpRel e).halted = s.halted := rfl
@[simp] theorem State.jumpRel_nmiPending (s : State) (e : Byte) : (s.jumpRel e).nmiPending = s.nmiPending := rfl
@[simp] theorem State.jumpRel_eiShadow (s : State) (e : Byte) : (s.jumpRel e).eiShadow = s.eiShadow := rfl
@[simp] theorem State.jumpRel_busGranted (s : State) (e : Byte) : (s.jumpRel e).busGranted = s.busGranted := rfl
@[simp] theorem State.jumpRel_clockState (s : State) (e : Byte) : (s.jumpRel e).clockState = s.clockState := rfl
@[simp] theorem State.jumpRel_mem (s : State) (e : Byte) : (s.jumpRel e).mem = s.mem := rfl
@[simp] theorem State.jumpRel_memMap (s : State) (e : Byte) : (s.jumpRel e).memMap = s.memMap := rfl
@[simp] theorem State.jumpRel_ioMap (s : State) (e : Byte) : (s.jumpRel e).ioMap = s.ioMap := rfl
@[simp] theorem State.jumpRel_sleepBusack (s : State) (e : Byte) : (s.jumpRel e).sleepBusack = s.sleepBusack := rfl
@[simp] theorem State.jumpRel_pins (s : State) (e : Byte) : (s.jumpRel e).pins = s.pins := rfl
@[simp] theorem State.jumpRel_inputs (s : State) (e : Byte) : (s.jumpRel e).inputs = s.inputs := rfl
@[simp] theorem State.jumpRel_grants (s : State) (e : Byte) : (s.jumpRel e).grants = s.grants := rfl
@[simp] theorem State.jumpRel_dataIn (s : State) (e : Byte) : (s.jumpRel e).dataIn = s.dataIn := rfl
@[simp] theorem State.jumpRel_draws (s : State) (e : Byte) : (s.jumpRel e).draws = s.draws := rfl
@[simp] theorem State.jumpRel_trace (s : State) (e : Byte) : (s.jumpRel e).trace = s.trace := rfl

/-! The halt state left. -/

@[simp] theorem State.unhalt_a (s : State) : s.unhalt.a = s.a := rfl
@[simp] theorem State.unhalt_f (s : State) : s.unhalt.f = s.f := rfl
@[simp] theorem State.unhalt_b (s : State) : s.unhalt.b = s.b := rfl
@[simp] theorem State.unhalt_c (s : State) : s.unhalt.c = s.c := rfl
@[simp] theorem State.unhalt_d (s : State) : s.unhalt.d = s.d := rfl
@[simp] theorem State.unhalt_e (s : State) : s.unhalt.e = s.e := rfl
@[simp] theorem State.unhalt_h (s : State) : s.unhalt.h = s.h := rfl
@[simp] theorem State.unhalt_l (s : State) : s.unhalt.l = s.l := rfl
@[simp] theorem State.unhalt_aAlt (s : State) : s.unhalt.aAlt = s.aAlt := rfl
@[simp] theorem State.unhalt_fAlt (s : State) : s.unhalt.fAlt = s.fAlt := rfl
@[simp] theorem State.unhalt_bAlt (s : State) : s.unhalt.bAlt = s.bAlt := rfl
@[simp] theorem State.unhalt_cAlt (s : State) : s.unhalt.cAlt = s.cAlt := rfl
@[simp] theorem State.unhalt_dAlt (s : State) : s.unhalt.dAlt = s.dAlt := rfl
@[simp] theorem State.unhalt_eAlt (s : State) : s.unhalt.eAlt = s.eAlt := rfl
@[simp] theorem State.unhalt_hAlt (s : State) : s.unhalt.hAlt = s.hAlt := rfl
@[simp] theorem State.unhalt_lAlt (s : State) : s.unhalt.lAlt = s.lAlt := rfl
@[simp] theorem State.unhalt_ix (s : State) : s.unhalt.ix = s.ix := rfl
@[simp] theorem State.unhalt_iy (s : State) : s.unhalt.iy = s.iy := rfl
@[simp] theorem State.unhalt_sp (s : State) : s.unhalt.sp = s.sp := rfl
@[simp] theorem State.unhalt_pc (s : State) : s.unhalt.pc = s.pc := rfl
@[simp] theorem State.unhalt_i (s : State) : s.unhalt.i = s.i := rfl
@[simp] theorem State.unhalt_r (s : State) : s.unhalt.r = s.r := rfl
@[simp] theorem State.unhalt_iff1 (s : State) : s.unhalt.iff1 = s.iff1 := rfl
@[simp] theorem State.unhalt_iff2 (s : State) : s.unhalt.iff2 = s.iff2 := rfl
@[simp] theorem State.unhalt_im (s : State) : s.unhalt.im = s.im := rfl
@[simp] theorem State.unhalt_halted (s : State) : s.unhalt.halted = false := rfl
@[simp] theorem State.unhalt_nmiPending (s : State) : s.unhalt.nmiPending = s.nmiPending := rfl
@[simp] theorem State.unhalt_eiShadow (s : State) : s.unhalt.eiShadow = s.eiShadow := rfl
@[simp] theorem State.unhalt_busGranted (s : State) : s.unhalt.busGranted = s.busGranted := rfl
@[simp] theorem State.unhalt_clockState (s : State) : s.unhalt.clockState = .running := rfl
@[simp] theorem State.unhalt_mem (s : State) : s.unhalt.mem = s.mem := rfl
@[simp] theorem State.unhalt_memMap (s : State) : s.unhalt.memMap = s.memMap := rfl
@[simp] theorem State.unhalt_ioMap (s : State) : s.unhalt.ioMap = s.ioMap := rfl
@[simp] theorem State.unhalt_sleepBusack (s : State) : s.unhalt.sleepBusack = s.sleepBusack := rfl
@[simp] theorem State.unhalt_pins (s : State) : s.unhalt.pins = s.pins := rfl
@[simp] theorem State.unhalt_inputs (s : State) : s.unhalt.inputs = s.inputs := rfl
@[simp] theorem State.unhalt_grants (s : State) : s.unhalt.grants = s.grants := rfl
@[simp] theorem State.unhalt_dataIn (s : State) : s.unhalt.dataIn = s.dataIn := rfl
@[simp] theorem State.unhalt_draws (s : State) : s.unhalt.draws = s.draws := rfl
@[simp] theorem State.unhalt_trace (s : State) : s.unhalt.trace = s.trace := rfl

/-! The pairs as words. -/

theorem joinBytes_toNat (x y : Byte) : (joinBytes x y).toNat = 256 * x.toNat + y.toNat := by
  have hy := y.isLt
  simp only [joinBytes, BitVec.toNat_append, Nat.shiftLeft_eq]
  rw [Nat.mul_comm, ← Nat.two_pow_add_eq_or_of_lt hy]

theorem hiByte_toNat (v : Word) : (hiByte v).toNat = v.toNat / 256 := by
  have := v.isLt
  simp [hiByte, BitVec.extractLsb'_toNat, Nat.shiftRight_eq_div_pow]; omega

theorem loByte_toNat (v : Word) : (loByte v).toNat = v.toNat % 256 := by
  simp [loByte, BitVec.extractLsb'_toNat]

@[simp] theorem hiByte_joinBytes (x y : Byte) : hiByte (joinBytes x y) = x := by
  apply BitVec.eq_of_toNat_eq; rw [hiByte_toNat, joinBytes_toNat]; have := y.isLt; omega

@[simp] theorem loByte_joinBytes (x y : Byte) : loByte (joinBytes x y) = y := by
  apply BitVec.eq_of_toNat_eq; rw [loByte_toNat, joinBytes_toNat]; have := y.isLt; omega

@[simp] theorem joinBytes_hiByte_loByte (v : Word) : joinBytes (hiByte v) (loByte v) = v := by
  apply BitVec.eq_of_toNat_eq; rw [joinBytes_toNat, hiByte_toNat, loByte_toNat]; omega

@[simp] theorem State.setBC_bc (s : State) (v : Word) : (s.setBC v).bc = v := by simp [State.bc]

@[simp] theorem State.setDE_de (s : State) (v : Word) : (s.setDE v).de = v := by simp [State.de]

@[simp] theorem State.setHL_hl (s : State) (v : Word) : (s.setHL v).hl = v := by simp [State.hl]

@[simp] theorem FlagReg.ofByte_toByte (f : FlagReg) : FlagReg.ofByte f.toByte = f := by
  rcases f with ⟨⟨_ | _, _ | _, _ | _, _ | _, _ | _, _ | _⟩, _ | _, _ | _⟩ <;> rfl

@[simp] theorem FlagReg.toByte_ofByte (v : Byte) : (FlagReg.ofByte v).toByte = v := by
  revert v; decide

@[simp] theorem State.setAF_af (s : State) (v : Word) : (s.setAF v).af = v := by simp [State.af]

@[simp] theorem State.setRegDD_regDD (s : State) (p : RegDD) (v : Word) : (s.setRegDD p v).regDD p = v := by
  cases p <;> simp [State.setRegDD, State.regDD]

@[simp] theorem State.setRegQQ_regQQ (s : State) (p : RegQQ) (v : Word) : (s.setRegQQ p v).regQQ p = v := by
  cases p <;> simp [State.setRegQQ, State.regQQ]

/-- A register read after a write of a register. -/
@[simp] theorem State.setReg8_reg8 (s : State) (r q : R8) (v : Byte) :
    (s.setReg8 r v).reg8 q = if q = r then v else s.reg8 q := by
  cases r <;> cases q <;> rfl

end Sys2Proof.Machine
end

