-- ==== Sys2Proof/Laws/Ops.lean ====
section
/-! SUPPORT. The shared operations, each with what it can do said once: which fields it may change (its frame), and
what it does to those where no other master takes the bus in between; then what each leaves, field by field; then that
each keeps the canonical form of memory. -/

namespace Sys2Proof.Machine

/-! Frames. -/

/-- Two states that differ at most in what a bus cycle can change: memory, and the model's own fields for grants, the
bytes from outside, the free values and the trace. -/
def OnlyBus (s t : State) : Prop :=
  t = { s with mem := t.mem, grants := t.grants, dataIn := t.dataIn, draws := t.draws, trace := t.trace }

theorem OnlyBus.refl (s : State) : OnlyBus s s := rfl

theorem OnlyBus.trans {s t u : State} (h : OnlyBus s t) (k : OnlyBus t u) : OnlyBus s u := by
  unfold OnlyBus at *; rw [k, h]

theorem State.emit_onlyBus (s : State) (x : BusCycle) : OnlyBus s (s.emit x) := rfl

theorem State.draw_onlyBus (s : State) : OnlyBus s s.draw.2 := rfl

/-- A store changes memory alone. -/
theorem State.storeByte_frame (s : State) (a : Word) (v : Byte) :
    s.storeByte a v = { s with mem := (s.storeByte a v).mem } := by
  unfold State.storeByte; split <;> rfl

theorem State.storeByte_onlyBus (s : State) (a : Word) (v : Byte) : OnlyBus s (s.storeByte a v) := by
  unfold OnlyBus; rw [State.storeByte_frame]

/-- The writes of another master change memory alone. -/
theorem State.storeAll_frame (ws : List (Word × Byte)) (s : State) :
    s.storeAll ws = { s with mem := (s.storeAll ws).mem } := by
  induction ws generalizing s with
  | nil => rfl
  | cons x xs ih => unfold State.storeAll; rw [ih, State.storeByte_frame]

theorem State.storeAll_onlyBus (ws : List (Word × Byte)) (s : State) : OnlyBus s (s.storeAll ws) := by
  unfold OnlyBus; rw [State.storeAll_frame]

/-- The end of a bus cycle can change memory, the coming grants and the trace, nothing else. -/
theorem State.endCycle_onlyBus (s : State) : OnlyBus s s.endCycle := by
  unfold State.endCycle
  split
  · exact OnlyBus.refl s
  · rfl
  · rename_i ws rest _
    exact OnlyBus.trans (t := State.emit { s with grants := rest } (.granted ws)) rfl (State.storeAll_onlyBus _ _)

/-- With no grant listed the end of a bus cycle does nothing. -/
@[simp] theorem State.endCycle_alone (s : State) (h : s.grants = []) : s.endCycle = s := by
  unfold State.endCycle; rw [h]

/-- The outside's byte takes an entry of dataIn, or draws a free byte; nothing else. -/
theorem State.external_frame (s : State) :
    s.external.2 = { s with dataIn := s.external.2.dataIn, draws := s.external.2.draws } := by
  unfold State.external; split <;> rfl

/-- So does the data bus in an input cycle. -/
theorem State.portIn_frame (s : State) (p : Word) :
    (s.portIn p).2 = { s with dataIn := (s.portIn p).2.dataIn, draws := (s.portIn p).2.draws } := by
  unfold State.portIn
  split
  · exact State.external_frame s
  · rfl

/-- The byte of an input cycle: the outside's where a peripheral answers, a free one where none does. -/
theorem State.portIn_cases (s : State) (p : Word) :
    (s.portAnswers p = true → s.portIn p = s.external) ∧ (s.portAnswers p = false → s.portIn p = s.draw) := by
  unfold State.portIn
  constructor <;> intro h <;> simp [h]

/-- So does a read of the data bus. -/
theorem State.dataAt_frame (s : State) (a : Word) :
    (s.dataAt a).2 = { s with dataIn := (s.dataAt a).2.dataIn, draws := (s.dataAt a).2.draws } := by
  unfold State.dataAt
  split
  · exact State.external_frame s
  · rfl
  · split <;> rfl
  · split <;> rfl

/-- A byte that RAM or ROM holds is what a read gives, and nothing changes. -/
theorem State.dataAt_known (s : State) (a : Word) (v : Byte) (hk : s.kindAt a = .ram ∨ s.kindAt a = .rom)
    (hv : s.mem.byteAt a.toNat = some v) : s.dataAt a = (v, s) := by
  unfold State.dataAt
  rcases hk with hk | hk <;> simp [hk, hv]

theorem State.external_onlyBus (s : State) : OnlyBus s s.external.2 := by
  unfold OnlyBus; rw [State.external_frame]

theorem State.portIn_onlyBus (s : State) (p : Word) : OnlyBus s (s.portIn p).2 := by
  unfold OnlyBus; rw [State.portIn_frame]

theorem State.dataAt_onlyBus (s : State) (a : Word) : OnlyBus s (s.dataAt a).2 := by
  unfold OnlyBus; rw [State.dataAt_frame]

theorem State.readByte_onlyBus (s : State) (a : Word) : OnlyBus s (s.readByte a).2 :=
  ((State.dataAt_onlyBus s a).trans (State.emit_onlyBus _ _)).trans (State.endCycle_onlyBus _)

theorem State.writeByte_onlyBus (s : State) (a : Word) (v : Byte) : OnlyBus s (s.writeByte a v) :=
  ((State.storeByte_onlyBus s a v).trans (State.emit_onlyBus _ _)).trans (State.endCycle_onlyBus _)

theorem State.readWord_onlyBus (s : State) (a : Word) : OnlyBus s (s.readWord a).2 :=
  (State.readByte_onlyBus s a).trans (State.readByte_onlyBus _ _)

theorem State.writeWord_onlyBus (s : State) (a : Word) (v : Word) : OnlyBus s (s.writeWord a v) :=
  (State.writeByte_onlyBus s a _).trans (State.writeByte_onlyBus _ _ _)

theorem State.modifyByte_onlyBus (s : State) (a : Word) (g : Byte → Byte) : OnlyBus s (s.modifyByte a g) :=
  (State.readByte_onlyBus s a).trans (State.writeByte_onlyBus _ _ _)

theorem State.ioRead_onlyBus (s : State) (p : Word) : OnlyBus s (s.ioRead p).2 :=
  ((State.portIn_onlyBus s p).trans (State.emit_onlyBus _ _)).trans (State.endCycle_onlyBus _)

theorem State.ioWrite_onlyBus (s : State) (p : Word) (v : Byte) : OnlyBus s (s.ioWrite p v) :=
  (State.emit_onlyBus s _).trans (State.endCycle_onlyBus _)

/-- A push moves SP by 2 and does two bus cycles. -/
theorem State.push16_onlyBus (s : State) (v : Word) : OnlyBus { s with sp := s.sp - 2 } (s.push16 v) := by
  have h := State.writeByte_onlyBus { s with sp := s.sp - 1 } (s.sp - 1) (hiByte v)
  refine OnlyBus.trans (t := { State.writeByte { s with sp := s.sp - 1 } (s.sp - 1) (hiByte v) with sp := s.sp - 2 })
    ?_ (State.writeByte_onlyBus _ _ _)
  unfold OnlyBus at *; rw [h]

/-- A pop moves SP by 2 and does two bus cycles. -/
theorem State.pop16_onlyBus (s : State) : OnlyBus { s with sp := s.sp + 2 } s.pop16.2 := by
  have h := State.readByte_onlyBus s s.sp
  have k := State.readByte_onlyBus { (s.readByte s.sp).2 with sp := s.sp + 1 } (s.sp + 1)
  unfold State.pop16
  unfold OnlyBus at *
  dsimp only
  rw [k, h]

/-- A refresh moves R and does a bus cycle. -/
theorem State.refreshCycle_onlyBus (s : State) : OnlyBus { s with r := inc7 s.r } s.refreshCycle :=
  OnlyBus.trans (t := { s.emit (.refresh (joinBytes s.i s.r)) with r := inc7 s.r }) rfl (State.endCycle_onlyBus _)

/-- An opcode fetch moves PC and R. -/
theorem State.fetchM1_onlyBus (s : State) : OnlyBus { s with pc := s.pc + 1, r := inc7 s.r } s.fetchM1.2 := by
  have h := State.dataAt_onlyBus s s.pc
  have k := State.refreshCycle_onlyBus
    { (s.dataAt s.pc).2.emit (.fetch s.pc (s.dataAt s.pc).1) with pc := s.pc + 1 }
  refine OnlyBus.trans ?_ k
  unfold OnlyBus at *
  dsimp only [State.emit]
  rw [h]

/-- An operand fetch moves PC. -/
theorem State.fetchOperand_onlyBus (s : State) : OnlyBus { s with pc := s.pc + 1 } s.fetchOperand.2 := by
  have h := State.readByte_onlyBus s s.pc
  unfold State.fetchOperand
  unfold OnlyBus at *
  dsimp only
  rw [h]


/-! Field by field: storeByte. -/

@[simp] theorem State.storeByte_a (s : State) (a : Word) (v : Byte) : (s.storeByte a v).a = s.a :=
  (congrArg State.a (State.storeByte_frame s a v) :)
@[simp] theorem State.storeByte_f (s : State) (a : Word) (v : Byte) : (s.storeByte a v).f = s.f :=
  (congrArg State.f (State.storeByte_frame s a v) :)
@[simp] theorem State.storeByte_b (s : State) (a : Word) (v : Byte) : (s.storeByte a v).b = s.b :=
  (congrArg State.b (State.storeByte_frame s a v) :)
@[simp] theorem State.storeByte_c (s : State) (a : Word) (v : Byte) : (s.storeByte a v).c = s.c :=
  (congrArg State.c (State.storeByte_frame s a v) :)
@[simp] theorem State.storeByte_d (s : State) (a : Word) (v : Byte) : (s.storeByte a v).d = s.d :=
  (congrArg State.d (State.storeByte_frame s a v) :)
@[simp] theorem State.storeByte_e (s : State) (a : Word) (v : Byte) : (s.storeByte a v).e = s.e :=
  (congrArg State.e (State.storeByte_frame s a v) :)
@[simp] theorem State.storeByte_h (s : State) (a : Word) (v : Byte) : (s.storeByte a v).h = s.h :=
  (congrArg State.h (State.storeByte_frame s a v) :)
@[simp] theorem State.storeByte_l (s : State) (a : Word) (v : Byte) : (s.storeByte a v).l = s.l :=
  (congrArg State.l (State.storeByte_frame s a v) :)
@[simp] theorem State.storeByte_aAlt (s : State) (a : Word) (v : Byte) : (s.storeByte a v).aAlt = s.aAlt :=
  (congrArg State.aAlt (State.storeByte_frame s a v) :)
@[simp] theorem State.storeByte_fAlt (s : State) (a : Word) (v : Byte) : (s.storeByte a v).fAlt = s.fAlt :=
  (congrArg State.fAlt (State.storeByte_frame s a v) :)
@[simp] theorem State.storeByte_bAlt (s : State) (a : Word) (v : Byte) : (s.storeByte a v).bAlt = s.bAlt :=
  (congrArg State.bAlt (State.storeByte_frame s a v) :)
@[simp] theorem State.storeByte_cAlt (s : State) (a : Word) (v : Byte) : (s.storeByte a v).cAlt = s.cAlt :=
  (congrArg State.cAlt (State.storeByte_frame s a v) :)
@[simp] theorem State.storeByte_dAlt (s : State) (a : Word) (v : Byte) : (s.storeByte a v).dAlt = s.dAlt :=
  (congrArg State.dAlt (State.storeByte_frame s a v) :)
@[simp] theorem State.storeByte_eAlt (s : State) (a : Word) (v : Byte) : (s.storeByte a v).eAlt = s.eAlt :=
  (congrArg State.eAlt (State.storeByte_frame s a v) :)
@[simp] theorem State.storeByte_hAlt (s : State) (a : Word) (v : Byte) : (s.storeByte a v).hAlt = s.hAlt :=
  (congrArg State.hAlt (State.storeByte_frame s a v) :)
@[simp] theorem State.storeByte_lAlt (s : State) (a : Word) (v : Byte) : (s.storeByte a v).lAlt = s.lAlt :=
  (congrArg State.lAlt (State.storeByte_frame s a v) :)
@[simp] theorem State.storeByte_ix (s : State) (a : Word) (v : Byte) : (s.storeByte a v).ix = s.ix :=
  (congrArg State.ix (State.storeByte_frame s a v) :)
@[simp] theorem State.storeByte_iy (s : State) (a : Word) (v : Byte) : (s.storeByte a v).iy = s.iy :=
  (congrArg State.iy (State.storeByte_frame s a v) :)
@[simp] theorem State.storeByte_sp (s : State) (a : Word) (v : Byte) : (s.storeByte a v).sp = s.sp :=
  (congrArg State.sp (State.storeByte_frame s a v) :)
@[simp] theorem State.storeByte_pc (s : State) (a : Word) (v : Byte) : (s.storeByte a v).pc = s.pc :=
  (congrArg State.pc (State.storeByte_frame s a v) :)
@[simp] theorem State.storeByte_i (s : State) (a : Word) (v : Byte) : (s.storeByte a v).i = s.i :=
  (congrArg State.i (State.storeByte_frame s a v) :)
@[simp] theorem State.storeByte_r (s : State) (a : Word) (v : Byte) : (s.storeByte a v).r = s.r :=
  (congrArg State.r (State.storeByte_frame s a v) :)
@[simp] theorem State.storeByte_iff1 (s : State) (a : Word) (v : Byte) : (s.storeByte a v).iff1 = s.iff1 :=
  (congrArg State.iff1 (State.storeByte_frame s a v) :)
@[simp] theorem State.storeByte_iff2 (s : State) (a : Word) (v : Byte) : (s.storeByte a v).iff2 = s.iff2 :=
  (congrArg State.iff2 (State.storeByte_frame s a v) :)
@[simp] theorem State.storeByte_im (s : State) (a : Word) (v : Byte) : (s.storeByte a v).im = s.im :=
  (congrArg State.im (State.storeByte_frame s a v) :)
@[simp] theorem State.storeByte_halted (s : State) (a : Word) (v : Byte) : (s.storeByte a v).halted = s.halted :=
  (congrArg State.halted (State.storeByte_frame s a v) :)
@[simp] theorem State.storeByte_nmiPending (s : State) (a : Word) (v : Byte) : (s.storeByte a v).nmiPending = s.nmiPending :=
  (congrArg State.nmiPending (State.storeByte_frame s a v) :)
@[simp] theorem State.storeByte_eiShadow (s : State) (a : Word) (v : Byte) : (s.storeByte a v).eiShadow = s.eiShadow :=
  (congrArg State.eiShadow (State.storeByte_frame s a v) :)
@[simp] theorem State.storeByte_busGranted (s : State) (a : Word) (v : Byte) : (s.storeByte a v).busGranted = s.busGranted :=
  (congrArg State.busGranted (State.storeByte_frame s a v) :)
@[simp] theorem State.storeByte_clockState (s : State) (a : Word) (v : Byte) : (s.storeByte a v).clockState = s.clockState :=
  (congrArg State.clockState (State.storeByte_frame s a v) :)
@[simp] theorem State.storeByte_memMap (s : State) (a : Word) (v : Byte) : (s.storeByte a v).memMap = s.memMap :=
  (congrArg State.memMap (State.storeByte_frame s a v) :)
@[simp] theorem State.storeByte_ioMap (s : State) (a : Word) (v : Byte) : (s.storeByte a v).ioMap = s.ioMap :=
  (congrArg State.ioMap (State.storeByte_frame s a v) :)
@[simp] theorem State.storeByte_sleepBusack (s : State) (a : Word) (v : Byte) : (s.storeByte a v).sleepBusack = s.sleepBusack :=
  (congrArg State.sleepBusack (State.storeByte_frame s a v) :)
@[simp] theorem State.storeByte_pins (s : State) (a : Word) (v : Byte) : (s.storeByte a v).pins = s.pins :=
  (congrArg State.pins (State.storeByte_frame s a v) :)
@[simp] theorem State.storeByte_inputs (s : State) (a : Word) (v : Byte) : (s.storeByte a v).inputs = s.inputs :=
  (congrArg State.inputs (State.storeByte_frame s a v) :)
@[simp] theorem State.storeByte_grants (s : State) (a : Word) (v : Byte) : (s.storeByte a v).grants = s.grants :=
  (congrArg State.grants (State.storeByte_frame s a v) :)
@[simp] theorem State.storeByte_dataIn (s : State) (a : Word) (v : Byte) : (s.storeByte a v).dataIn = s.dataIn :=
  (congrArg State.dataIn (State.storeByte_frame s a v) :)
@[simp] theorem State.storeByte_draws (s : State) (a : Word) (v : Byte) : (s.storeByte a v).draws = s.draws :=
  (congrArg State.draws (State.storeByte_frame s a v) :)
@[simp] theorem State.storeByte_trace (s : State) (a : Word) (v : Byte) : (s.storeByte a v).trace = s.trace :=
  (congrArg State.trace (State.storeByte_frame s a v) :)

/-! Field by field: storeAll. -/

@[simp] theorem State.storeAll_a (s : State) (ws : List (Word × Byte)) : (s.storeAll ws).a = s.a :=
  (congrArg State.a (State.storeAll_frame ws s) :)
@[simp] theorem State.storeAll_f (s : State) (ws : List (Word × Byte)) : (s.storeAll ws).f = s.f :=
  (congrArg State.f (State.storeAll_frame ws s) :)
@[simp] theorem State.storeAll_b (s : State) (ws : List (Word × Byte)) : (s.storeAll ws).b = s.b :=
  (congrArg State.b (State.storeAll_frame ws s) :)
@[simp] theorem State.storeAll_c (s : State) (ws : List (Word × Byte)) : (s.storeAll ws).c = s.c :=
  (congrArg State.c (State.storeAll_frame ws s) :)
@[simp] theorem State.storeAll_d (s : State) (ws : List (Word × Byte)) : (s.storeAll ws).d = s.d :=
  (congrArg State.d (State.storeAll_frame ws s) :)
@[simp] theorem State.storeAll_e (s : State) (ws : List (Word × Byte)) : (s.storeAll ws).e = s.e :=
  (congrArg State.e (State.storeAll_frame ws s) :)
@[simp] theorem State.storeAll_h (s : State) (ws : List (Word × Byte)) : (s.storeAll ws).h = s.h :=
  (congrArg State.h (State.storeAll_frame ws s) :)
@[simp] theorem State.storeAll_l (s : State) (ws : List (Word × Byte)) : (s.storeAll ws).l = s.l :=
  (congrArg State.l (State.storeAll_frame ws s) :)
@[simp] theorem State.storeAll_aAlt (s : State) (ws : List (Word × Byte)) : (s.storeAll ws).aAlt = s.aAlt :=
  (congrArg State.aAlt (State.storeAll_frame ws s) :)
@[simp] theorem State.storeAll_fAlt (s : State) (ws : List (Word × Byte)) : (s.storeAll ws).fAlt = s.fAlt :=
  (congrArg State.fAlt (State.storeAll_frame ws s) :)
@[simp] theorem State.storeAll_bAlt (s : State) (ws : List (Word × Byte)) : (s.storeAll ws).bAlt = s.bAlt :=
  (congrArg State.bAlt (State.storeAll_frame ws s) :)
@[simp] theorem State.storeAll_cAlt (s : State) (ws : List (Word × Byte)) : (s.storeAll ws).cAlt = s.cAlt :=
  (congrArg State.cAlt (State.storeAll_frame ws s) :)
@[simp] theorem State.storeAll_dAlt (s : State) (ws : List (Word × Byte)) : (s.storeAll ws).dAlt = s.dAlt :=
  (congrArg State.dAlt (State.storeAll_frame ws s) :)
@[simp] theorem State.storeAll_eAlt (s : State) (ws : List (Word × Byte)) : (s.storeAll ws).eAlt = s.eAlt :=
  (congrArg State.eAlt (State.storeAll_frame ws s) :)
@[simp] theorem State.storeAll_hAlt (s : State) (ws : List (Word × Byte)) : (s.storeAll ws).hAlt = s.hAlt :=
  (congrArg State.hAlt (State.storeAll_frame ws s) :)
@[simp] theorem State.storeAll_lAlt (s : State) (ws : List (Word × Byte)) : (s.storeAll ws).lAlt = s.lAlt :=
  (congrArg State.lAlt (State.storeAll_frame ws s) :)
@[simp] theorem State.storeAll_ix (s : State) (ws : List (Word × Byte)) : (s.storeAll ws).ix = s.ix :=
  (congrArg State.ix (State.storeAll_frame ws s) :)
@[simp] theorem State.storeAll_iy (s : State) (ws : List (Word × Byte)) : (s.storeAll ws).iy = s.iy :=
  (congrArg State.iy (State.storeAll_frame ws s) :)
@[simp] theorem State.storeAll_sp (s : State) (ws : List (Word × Byte)) : (s.storeAll ws).sp = s.sp :=
  (congrArg State.sp (State.storeAll_frame ws s) :)
@[simp] theorem State.storeAll_pc (s : State) (ws : List (Word × Byte)) : (s.storeAll ws).pc = s.pc :=
  (congrArg State.pc (State.storeAll_frame ws s) :)
@[simp] theorem State.storeAll_i (s : State) (ws : List (Word × Byte)) : (s.storeAll ws).i = s.i :=
  (congrArg State.i (State.storeAll_frame ws s) :)
@[simp] theorem State.storeAll_r (s : State) (ws : List (Word × Byte)) : (s.storeAll ws).r = s.r :=
  (congrArg State.r (State.storeAll_frame ws s) :)
@[simp] theorem State.storeAll_iff1 (s : State) (ws : List (Word × Byte)) : (s.storeAll ws).iff1 = s.iff1 :=
  (congrArg State.iff1 (State.storeAll_frame ws s) :)
@[simp] theorem State.storeAll_iff2 (s : State) (ws : List (Word × Byte)) : (s.storeAll ws).iff2 = s.iff2 :=
  (congrArg State.iff2 (State.storeAll_frame ws s) :)
@[simp] theorem State.storeAll_im (s : State) (ws : List (Word × Byte)) : (s.storeAll ws).im = s.im :=
  (congrArg State.im (State.storeAll_frame ws s) :)
@[simp] theorem State.storeAll_halted (s : State) (ws : List (Word × Byte)) : (s.storeAll ws).halted = s.halted :=
  (congrArg State.halted (State.storeAll_frame ws s) :)
@[simp] theorem State.storeAll_nmiPending (s : State) (ws : List (Word × Byte)) : (s.storeAll ws).nmiPending = s.nmiPending :=
  (congrArg State.nmiPending (State.storeAll_frame ws s) :)
@[simp] theorem State.storeAll_eiShadow (s : State) (ws : List (Word × Byte)) : (s.storeAll ws).eiShadow = s.eiShadow :=
  (congrArg State.eiShadow (State.storeAll_frame ws s) :)
@[simp] theorem State.storeAll_busGranted (s : State) (ws : List (Word × Byte)) : (s.storeAll ws).busGranted = s.busGranted :=
  (congrArg State.busGranted (State.storeAll_frame ws s) :)
@[simp] theorem State.storeAll_clockState (s : State) (ws : List (Word × Byte)) : (s.storeAll ws).clockState = s.clockState :=
  (congrArg State.clockState (State.storeAll_frame ws s) :)
@[simp] theorem State.storeAll_memMap (s : State) (ws : List (Word × Byte)) : (s.storeAll ws).memMap = s.memMap :=
  (congrArg State.memMap (State.storeAll_frame ws s) :)
@[simp] theorem State.storeAll_ioMap (s : State) (ws : List (Word × Byte)) : (s.storeAll ws).ioMap = s.ioMap :=
  (congrArg State.ioMap (State.storeAll_frame ws s) :)
@[simp] theorem State.storeAll_sleepBusack (s : State) (ws : List (Word × Byte)) : (s.storeAll ws).sleepBusack = s.sleepBusack :=
  (congrArg State.sleepBusack (State.storeAll_frame ws s) :)
@[simp] theorem State.storeAll_pins (s : State) (ws : List (Word × Byte)) : (s.storeAll ws).pins = s.pins :=
  (congrArg State.pins (State.storeAll_frame ws s) :)
@[simp] theorem State.storeAll_inputs (s : State) (ws : List (Word × Byte)) : (s.storeAll ws).inputs = s.inputs :=
  (congrArg State.inputs (State.storeAll_frame ws s) :)
@[simp] theorem State.storeAll_grants (s : State) (ws : List (Word × Byte)) : (s.storeAll ws).grants = s.grants :=
  (congrArg State.grants (State.storeAll_frame ws s) :)
@[simp] theorem State.storeAll_dataIn (s : State) (ws : List (Word × Byte)) : (s.storeAll ws).dataIn = s.dataIn :=
  (congrArg State.dataIn (State.storeAll_frame ws s) :)
@[simp] theorem State.storeAll_draws (s : State) (ws : List (Word × Byte)) : (s.storeAll ws).draws = s.draws :=
  (congrArg State.draws (State.storeAll_frame ws s) :)
@[simp] theorem State.storeAll_trace (s : State) (ws : List (Word × Byte)) : (s.storeAll ws).trace = s.trace :=
  (congrArg State.trace (State.storeAll_frame ws s) :)

/-! Field by field: endCycle. -/

@[simp] theorem State.endCycle_a (s : State) : s.endCycle.a = s.a :=
  (congrArg State.a (State.endCycle_onlyBus s) :)
@[simp] theorem State.endCycle_f (s : State) : s.endCycle.f = s.f :=
  (congrArg State.f (State.endCycle_onlyBus s) :)
@[simp] theorem State.endCycle_b (s : State) : s.endCycle.b = s.b :=
  (congrArg State.b (State.endCycle_onlyBus s) :)
@[simp] theorem State.endCycle_c (s : State) : s.endCycle.c = s.c :=
  (congrArg State.c (State.endCycle_onlyBus s) :)
@[simp] theorem State.endCycle_d (s : State) : s.endCycle.d = s.d :=
  (congrArg State.d (State.endCycle_onlyBus s) :)
@[simp] theorem State.endCycle_e (s : State) : s.endCycle.e = s.e :=
  (congrArg State.e (State.endCycle_onlyBus s) :)
@[simp] theorem State.endCycle_h (s : State) : s.endCycle.h = s.h :=
  (congrArg State.h (State.endCycle_onlyBus s) :)
@[simp] theorem State.endCycle_l (s : State) : s.endCycle.l = s.l :=
  (congrArg State.l (State.endCycle_onlyBus s) :)
@[simp] theorem State.endCycle_aAlt (s : State) : s.endCycle.aAlt = s.aAlt :=
  (congrArg State.aAlt (State.endCycle_onlyBus s) :)
@[simp] theorem State.endCycle_fAlt (s : State) : s.endCycle.fAlt = s.fAlt :=
  (congrArg State.fAlt (State.endCycle_onlyBus s) :)
@[simp] theorem State.endCycle_bAlt (s : State) : s.endCycle.bAlt = s.bAlt :=
  (congrArg State.bAlt (State.endCycle_onlyBus s) :)
@[simp] theorem State.endCycle_cAlt (s : State) : s.endCycle.cAlt = s.cAlt :=
  (congrArg State.cAlt (State.endCycle_onlyBus s) :)
@[simp] theorem State.endCycle_dAlt (s : State) : s.endCycle.dAlt = s.dAlt :=
  (congrArg State.dAlt (State.endCycle_onlyBus s) :)
@[simp] theorem State.endCycle_eAlt (s : State) : s.endCycle.eAlt = s.eAlt :=
  (congrArg State.eAlt (State.endCycle_onlyBus s) :)
@[simp] theorem State.endCycle_hAlt (s : State) : s.endCycle.hAlt = s.hAlt :=
  (congrArg State.hAlt (State.endCycle_onlyBus s) :)
@[simp] theorem State.endCycle_lAlt (s : State) : s.endCycle.lAlt = s.lAlt :=
  (congrArg State.lAlt (State.endCycle_onlyBus s) :)
@[simp] theorem State.endCycle_ix (s : State) : s.endCycle.ix = s.ix :=
  (congrArg State.ix (State.endCycle_onlyBus s) :)
@[simp] theorem State.endCycle_iy (s : State) : s.endCycle.iy = s.iy :=
  (congrArg State.iy (State.endCycle_onlyBus s) :)
@[simp] theorem State.endCycle_sp (s : State) : s.endCycle.sp = s.sp :=
  (congrArg State.sp (State.endCycle_onlyBus s) :)
@[simp] theorem State.endCycle_pc (s : State) : s.endCycle.pc = s.pc :=
  (congrArg State.pc (State.endCycle_onlyBus s) :)
@[simp] theorem State.endCycle_i (s : State) : s.endCycle.i = s.i :=
  (congrArg State.i (State.endCycle_onlyBus s) :)
@[simp] theorem State.endCycle_r (s : State) : s.endCycle.r = s.r :=
  (congrArg State.r (State.endCycle_onlyBus s) :)
@[simp] theorem State.endCycle_iff1 (s : State) : s.endCycle.iff1 = s.iff1 :=
  (congrArg State.iff1 (State.endCycle_onlyBus s) :)
@[simp] theorem State.endCycle_iff2 (s : State) : s.endCycle.iff2 = s.iff2 :=
  (congrArg State.iff2 (State.endCycle_onlyBus s) :)
@[simp] theorem State.endCycle_im (s : State) : s.endCycle.im = s.im :=
  (congrArg State.im (State.endCycle_onlyBus s) :)
@[simp] theorem State.endCycle_halted (s : State) : s.endCycle.halted = s.halted :=
  (congrArg State.halted (State.endCycle_onlyBus s) :)
@[simp] theorem State.endCycle_nmiPending (s : State) : s.endCycle.nmiPending = s.nmiPending :=
  (congrArg State.nmiPending (State.endCycle_onlyBus s) :)
@[simp] theorem State.endCycle_eiShadow (s : State) : s.endCycle.eiShadow = s.eiShadow :=
  (congrArg State.eiShadow (State.endCycle_onlyBus s) :)
@[simp] theorem State.endCycle_busGranted (s : State) : s.endCycle.busGranted = s.busGranted :=
  (congrArg State.busGranted (State.endCycle_onlyBus s) :)
@[simp] theorem State.endCycle_clockState (s : State) : s.endCycle.clockState = s.clockState :=
  (congrArg State.clockState (State.endCycle_onlyBus s) :)
@[simp] theorem State.endCycle_memMap (s : State) : s.endCycle.memMap = s.memMap :=
  (congrArg State.memMap (State.endCycle_onlyBus s) :)
@[simp] theorem State.endCycle_ioMap (s : State) : s.endCycle.ioMap = s.ioMap :=
  (congrArg State.ioMap (State.endCycle_onlyBus s) :)
@[simp] theorem State.endCycle_sleepBusack (s : State) : s.endCycle.sleepBusack = s.sleepBusack :=
  (congrArg State.sleepBusack (State.endCycle_onlyBus s) :)
@[simp] theorem State.endCycle_pins (s : State) : s.endCycle.pins = s.pins :=
  (congrArg State.pins (State.endCycle_onlyBus s) :)
@[simp] theorem State.endCycle_inputs (s : State) : s.endCycle.inputs = s.inputs :=
  (congrArg State.inputs (State.endCycle_onlyBus s) :)

/-! Field by field: external. -/

@[simp] theorem State.external_a (s : State) : s.external.2.a = s.a :=
  (congrArg State.a (State.external_frame s) :)
@[simp] theorem State.external_f (s : State) : s.external.2.f = s.f :=
  (congrArg State.f (State.external_frame s) :)
@[simp] theorem State.external_b (s : State) : s.external.2.b = s.b :=
  (congrArg State.b (State.external_frame s) :)
@[simp] theorem State.external_c (s : State) : s.external.2.c = s.c :=
  (congrArg State.c (State.external_frame s) :)
@[simp] theorem State.external_d (s : State) : s.external.2.d = s.d :=
  (congrArg State.d (State.external_frame s) :)
@[simp] theorem State.external_e (s : State) : s.external.2.e = s.e :=
  (congrArg State.e (State.external_frame s) :)
@[simp] theorem State.external_h (s : State) : s.external.2.h = s.h :=
  (congrArg State.h (State.external_frame s) :)
@[simp] theorem State.external_l (s : State) : s.external.2.l = s.l :=
  (congrArg State.l (State.external_frame s) :)
@[simp] theorem State.external_aAlt (s : State) : s.external.2.aAlt = s.aAlt :=
  (congrArg State.aAlt (State.external_frame s) :)
@[simp] theorem State.external_fAlt (s : State) : s.external.2.fAlt = s.fAlt :=
  (congrArg State.fAlt (State.external_frame s) :)
@[simp] theorem State.external_bAlt (s : State) : s.external.2.bAlt = s.bAlt :=
  (congrArg State.bAlt (State.external_frame s) :)
@[simp] theorem State.external_cAlt (s : State) : s.external.2.cAlt = s.cAlt :=
  (congrArg State.cAlt (State.external_frame s) :)
@[simp] theorem State.external_dAlt (s : State) : s.external.2.dAlt = s.dAlt :=
  (congrArg State.dAlt (State.external_frame s) :)
@[simp] theorem State.external_eAlt (s : State) : s.external.2.eAlt = s.eAlt :=
  (congrArg State.eAlt (State.external_frame s) :)
@[simp] theorem State.external_hAlt (s : State) : s.external.2.hAlt = s.hAlt :=
  (congrArg State.hAlt (State.external_frame s) :)
@[simp] theorem State.external_lAlt (s : State) : s.external.2.lAlt = s.lAlt :=
  (congrArg State.lAlt (State.external_frame s) :)
@[simp] theorem State.external_ix (s : State) : s.external.2.ix = s.ix :=
  (congrArg State.ix (State.external_frame s) :)
@[simp] theorem State.external_iy (s : State) : s.external.2.iy = s.iy :=
  (congrArg State.iy (State.external_frame s) :)
@[simp] theorem State.external_sp (s : State) : s.external.2.sp = s.sp :=
  (congrArg State.sp (State.external_frame s) :)
@[simp] theorem State.external_pc (s : State) : s.external.2.pc = s.pc :=
  (congrArg State.pc (State.external_frame s) :)
@[simp] theorem State.external_i (s : State) : s.external.2.i = s.i :=
  (congrArg State.i (State.external_frame s) :)
@[simp] theorem State.external_r (s : State) : s.external.2.r = s.r :=
  (congrArg State.r (State.external_frame s) :)
@[simp] theorem State.external_iff1 (s : State) : s.external.2.iff1 = s.iff1 :=
  (congrArg State.iff1 (State.external_frame s) :)
@[simp] theorem State.external_iff2 (s : State) : s.external.2.iff2 = s.iff2 :=
  (congrArg State.iff2 (State.external_frame s) :)
@[simp] theorem State.external_im (s : State) : s.external.2.im = s.im :=
  (congrArg State.im (State.external_frame s) :)
@[simp] theorem State.external_halted (s : State) : s.external.2.halted = s.halted :=
  (congrArg State.halted (State.external_frame s) :)
@[simp] theorem State.external_nmiPending (s : State) : s.external.2.nmiPending = s.nmiPending :=
  (congrArg State.nmiPending (State.external_frame s) :)
@[simp] theorem State.external_eiShadow (s : State) : s.external.2.eiShadow = s.eiShadow :=
  (congrArg State.eiShadow (State.external_frame s) :)
@[simp] theorem State.external_busGranted (s : State) : s.external.2.busGranted = s.busGranted :=
  (congrArg State.busGranted (State.external_frame s) :)
@[simp] theorem State.external_clockState (s : State) : s.external.2.clockState = s.clockState :=
  (congrArg State.clockState (State.external_frame s) :)
@[simp] theorem State.external_mem (s : State) : s.external.2.mem = s.mem :=
  (congrArg State.mem (State.external_frame s) :)
@[simp] theorem State.external_memMap (s : State) : s.external.2.memMap = s.memMap :=
  (congrArg State.memMap (State.external_frame s) :)
@[simp] theorem State.external_ioMap (s : State) : s.external.2.ioMap = s.ioMap :=
  (congrArg State.ioMap (State.external_frame s) :)
@[simp] theorem State.external_sleepBusack (s : State) : s.external.2.sleepBusack = s.sleepBusack :=
  (congrArg State.sleepBusack (State.external_frame s) :)
@[simp] theorem State.external_pins (s : State) : s.external.2.pins = s.pins :=
  (congrArg State.pins (State.external_frame s) :)
@[simp] theorem State.external_inputs (s : State) : s.external.2.inputs = s.inputs :=
  (congrArg State.inputs (State.external_frame s) :)
@[simp] theorem State.external_grants (s : State) : s.external.2.grants = s.grants :=
  (congrArg State.grants (State.external_frame s) :)
@[simp] theorem State.external_trace (s : State) : s.external.2.trace = s.trace :=
  (congrArg State.trace (State.external_frame s) :)

/-! Field by field: dataAt. -/

@[simp] theorem State.dataAt_a (s : State) (a : Word) : (s.dataAt a).2.a = s.a :=
  (congrArg State.a (State.dataAt_frame s a) :)
@[simp] theorem State.dataAt_f (s : State) (a : Word) : (s.dataAt a).2.f = s.f :=
  (congrArg State.f (State.dataAt_frame s a) :)
@[simp] theorem State.dataAt_b (s : State) (a : Word) : (s.dataAt a).2.b = s.b :=
  (congrArg State.b (State.dataAt_frame s a) :)
@[simp] theorem State.dataAt_c (s : State) (a : Word) : (s.dataAt a).2.c = s.c :=
  (congrArg State.c (State.dataAt_frame s a) :)
@[simp] theorem State.dataAt_d (s : State) (a : Word) : (s.dataAt a).2.d = s.d :=
  (congrArg State.d (State.dataAt_frame s a) :)
@[simp] theorem State.dataAt_e (s : State) (a : Word) : (s.dataAt a).2.e = s.e :=
  (congrArg State.e (State.dataAt_frame s a) :)
@[simp] theorem State.dataAt_h (s : State) (a : Word) : (s.dataAt a).2.h = s.h :=
  (congrArg State.h (State.dataAt_frame s a) :)
@[simp] theorem State.dataAt_l (s : State) (a : Word) : (s.dataAt a).2.l = s.l :=
  (congrArg State.l (State.dataAt_frame s a) :)
@[simp] theorem State.dataAt_aAlt (s : State) (a : Word) : (s.dataAt a).2.aAlt = s.aAlt :=
  (congrArg State.aAlt (State.dataAt_frame s a) :)
@[simp] theorem State.dataAt_fAlt (s : State) (a : Word) : (s.dataAt a).2.fAlt = s.fAlt :=
  (congrArg State.fAlt (State.dataAt_frame s a) :)
@[simp] theorem State.dataAt_bAlt (s : State) (a : Word) : (s.dataAt a).2.bAlt = s.bAlt :=
  (congrArg State.bAlt (State.dataAt_frame s a) :)
@[simp] theorem State.dataAt_cAlt (s : State) (a : Word) : (s.dataAt a).2.cAlt = s.cAlt :=
  (congrArg State.cAlt (State.dataAt_frame s a) :)
@[simp] theorem State.dataAt_dAlt (s : State) (a : Word) : (s.dataAt a).2.dAlt = s.dAlt :=
  (congrArg State.dAlt (State.dataAt_frame s a) :)
@[simp] theorem State.dataAt_eAlt (s : State) (a : Word) : (s.dataAt a).2.eAlt = s.eAlt :=
  (congrArg State.eAlt (State.dataAt_frame s a) :)
@[simp] theorem State.dataAt_hAlt (s : State) (a : Word) : (s.dataAt a).2.hAlt = s.hAlt :=
  (congrArg State.hAlt (State.dataAt_frame s a) :)
@[simp] theorem State.dataAt_lAlt (s : State) (a : Word) : (s.dataAt a).2.lAlt = s.lAlt :=
  (congrArg State.lAlt (State.dataAt_frame s a) :)
@[simp] theorem State.dataAt_ix (s : State) (a : Word) : (s.dataAt a).2.ix = s.ix :=
  (congrArg State.ix (State.dataAt_frame s a) :)
@[simp] theorem State.dataAt_iy (s : State) (a : Word) : (s.dataAt a).2.iy = s.iy :=
  (congrArg State.iy (State.dataAt_frame s a) :)
@[simp] theorem State.dataAt_sp (s : State) (a : Word) : (s.dataAt a).2.sp = s.sp :=
  (congrArg State.sp (State.dataAt_frame s a) :)
@[simp] theorem State.dataAt_pc (s : State) (a : Word) : (s.dataAt a).2.pc = s.pc :=
  (congrArg State.pc (State.dataAt_frame s a) :)
@[simp] theorem State.dataAt_i (s : State) (a : Word) : (s.dataAt a).2.i = s.i :=
  (congrArg State.i (State.dataAt_frame s a) :)
@[simp] theorem State.dataAt_r (s : State) (a : Word) : (s.dataAt a).2.r = s.r :=
  (congrArg State.r (State.dataAt_frame s a) :)
@[simp] theorem State.dataAt_iff1 (s : State) (a : Word) : (s.dataAt a).2.iff1 = s.iff1 :=
  (congrArg State.iff1 (State.dataAt_frame s a) :)
@[simp] theorem State.dataAt_iff2 (s : State) (a : Word) : (s.dataAt a).2.iff2 = s.iff2 :=
  (congrArg State.iff2 (State.dataAt_frame s a) :)
@[simp] theorem State.dataAt_im (s : State) (a : Word) : (s.dataAt a).2.im = s.im :=
  (congrArg State.im (State.dataAt_frame s a) :)
@[simp] theorem State.dataAt_halted (s : State) (a : Word) : (s.dataAt a).2.halted = s.halted :=
  (congrArg State.halted (State.dataAt_frame s a) :)
@[simp] theorem State.dataAt_nmiPending (s : State) (a : Word) : (s.dataAt a).2.nmiPending = s.nmiPending :=
  (congrArg State.nmiPending (State.dataAt_frame s a) :)
@[simp] theorem State.dataAt_eiShadow (s : State) (a : Word) : (s.dataAt a).2.eiShadow = s.eiShadow :=
  (congrArg State.eiShadow (State.dataAt_frame s a) :)
@[simp] theorem State.dataAt_busGranted (s : State) (a : Word) : (s.dataAt a).2.busGranted = s.busGranted :=
  (congrArg State.busGranted (State.dataAt_frame s a) :)
@[simp] theorem State.dataAt_clockState (s : State) (a : Word) : (s.dataAt a).2.clockState = s.clockState :=
  (congrArg State.clockState (State.dataAt_frame s a) :)
@[simp] theorem State.dataAt_mem (s : State) (a : Word) : (s.dataAt a).2.mem = s.mem :=
  (congrArg State.mem (State.dataAt_frame s a) :)
@[simp] theorem State.dataAt_memMap (s : State) (a : Word) : (s.dataAt a).2.memMap = s.memMap :=
  (congrArg State.memMap (State.dataAt_frame s a) :)
@[simp] theorem State.dataAt_ioMap (s : State) (a : Word) : (s.dataAt a).2.ioMap = s.ioMap :=
  (congrArg State.ioMap (State.dataAt_frame s a) :)
@[simp] theorem State.dataAt_sleepBusack (s : State) (a : Word) : (s.dataAt a).2.sleepBusack = s.sleepBusack :=
  (congrArg State.sleepBusack (State.dataAt_frame s a) :)
@[simp] theorem State.dataAt_pins (s : State) (a : Word) : (s.dataAt a).2.pins = s.pins :=
  (congrArg State.pins (State.dataAt_frame s a) :)
@[simp] theorem State.dataAt_inputs (s : State) (a : Word) : (s.dataAt a).2.inputs = s.inputs :=
  (congrArg State.inputs (State.dataAt_frame s a) :)
@[simp] theorem State.dataAt_grants (s : State) (a : Word) : (s.dataAt a).2.grants = s.grants :=
  (congrArg State.grants (State.dataAt_frame s a) :)
@[simp] theorem State.dataAt_trace (s : State) (a : Word) : (s.dataAt a).2.trace = s.trace :=
  (congrArg State.trace (State.dataAt_frame s a) :)

/-! Field by field: readByte. -/

@[simp] theorem State.readByte_a (s : State) (a : Word) : (s.readByte a).2.a = s.a :=
  (congrArg State.a (State.readByte_onlyBus s a) :)
@[simp] theorem State.readByte_f (s : State) (a : Word) : (s.readByte a).2.f = s.f :=
  (congrArg State.f (State.readByte_onlyBus s a) :)
@[simp] theorem State.readByte_b (s : State) (a : Word) : (s.readByte a).2.b = s.b :=
  (congrArg State.b (State.readByte_onlyBus s a) :)
@[simp] theorem State.readByte_c (s : State) (a : Word) : (s.readByte a).2.c = s.c :=
  (congrArg State.c (State.readByte_onlyBus s a) :)
@[simp] theorem State.readByte_d (s : State) (a : Word) : (s.readByte a).2.d = s.d :=
  (congrArg State.d (State.readByte_onlyBus s a) :)
@[simp] theorem State.readByte_e (s : State) (a : Word) : (s.readByte a).2.e = s.e :=
  (congrArg State.e (State.readByte_onlyBus s a) :)
@[simp] theorem State.readByte_h (s : State) (a : Word) : (s.readByte a).2.h = s.h :=
  (congrArg State.h (State.readByte_onlyBus s a) :)
@[simp] theorem State.readByte_l (s : State) (a : Word) : (s.readByte a).2.l = s.l :=
  (congrArg State.l (State.readByte_onlyBus s a) :)
@[simp] theorem State.readByte_aAlt (s : State) (a : Word) : (s.readByte a).2.aAlt = s.aAlt :=
  (congrArg State.aAlt (State.readByte_onlyBus s a) :)
@[simp] theorem State.readByte_fAlt (s : State) (a : Word) : (s.readByte a).2.fAlt = s.fAlt :=
  (congrArg State.fAlt (State.readByte_onlyBus s a) :)
@[simp] theorem State.readByte_bAlt (s : State) (a : Word) : (s.readByte a).2.bAlt = s.bAlt :=
  (congrArg State.bAlt (State.readByte_onlyBus s a) :)
@[simp] theorem State.readByte_cAlt (s : State) (a : Word) : (s.readByte a).2.cAlt = s.cAlt :=
  (congrArg State.cAlt (State.readByte_onlyBus s a) :)
@[simp] theorem State.readByte_dAlt (s : State) (a : Word) : (s.readByte a).2.dAlt = s.dAlt :=
  (congrArg State.dAlt (State.readByte_onlyBus s a) :)
@[simp] theorem State.readByte_eAlt (s : State) (a : Word) : (s.readByte a).2.eAlt = s.eAlt :=
  (congrArg State.eAlt (State.readByte_onlyBus s a) :)
@[simp] theorem State.readByte_hAlt (s : State) (a : Word) : (s.readByte a).2.hAlt = s.hAlt :=
  (congrArg State.hAlt (State.readByte_onlyBus s a) :)
@[simp] theorem State.readByte_lAlt (s : State) (a : Word) : (s.readByte a).2.lAlt = s.lAlt :=
  (congrArg State.lAlt (State.readByte_onlyBus s a) :)
@[simp] theorem State.readByte_ix (s : State) (a : Word) : (s.readByte a).2.ix = s.ix :=
  (congrArg State.ix (State.readByte_onlyBus s a) :)
@[simp] theorem State.readByte_iy (s : State) (a : Word) : (s.readByte a).2.iy = s.iy :=
  (congrArg State.iy (State.readByte_onlyBus s a) :)
@[simp] theorem State.readByte_sp (s : State) (a : Word) : (s.readByte a).2.sp = s.sp :=
  (congrArg State.sp (State.readByte_onlyBus s a) :)
@[simp] theorem State.readByte_pc (s : State) (a : Word) : (s.readByte a).2.pc = s.pc :=
  (congrArg State.pc (State.readByte_onlyBus s a) :)
@[simp] theorem State.readByte_i (s : State) (a : Word) : (s.readByte a).2.i = s.i :=
  (congrArg State.i (State.readByte_onlyBus s a) :)
@[simp] theorem State.readByte_r (s : State) (a : Word) : (s.readByte a).2.r = s.r :=
  (congrArg State.r (State.readByte_onlyBus s a) :)
@[simp] theorem State.readByte_iff1 (s : State) (a : Word) : (s.readByte a).2.iff1 = s.iff1 :=
  (congrArg State.iff1 (State.readByte_onlyBus s a) :)
@[simp] theorem State.readByte_iff2 (s : State) (a : Word) : (s.readByte a).2.iff2 = s.iff2 :=
  (congrArg State.iff2 (State.readByte_onlyBus s a) :)
@[simp] theorem State.readByte_im (s : State) (a : Word) : (s.readByte a).2.im = s.im :=
  (congrArg State.im (State.readByte_onlyBus s a) :)
@[simp] theorem State.readByte_halted (s : State) (a : Word) : (s.readByte a).2.halted = s.halted :=
  (congrArg State.halted (State.readByte_onlyBus s a) :)
@[simp] theorem State.readByte_nmiPending (s : State) (a : Word) : (s.readByte a).2.nmiPending = s.nmiPending :=
  (congrArg State.nmiPending (State.readByte_onlyBus s a) :)
@[simp] theorem State.readByte_eiShadow (s : State) (a : Word) : (s.readByte a).2.eiShadow = s.eiShadow :=
  (congrArg State.eiShadow (State.readByte_onlyBus s a) :)
@[simp] theorem State.readByte_busGranted (s : State) (a : Word) : (s.readByte a).2.busGranted = s.busGranted :=
  (congrArg State.busGranted (State.readByte_onlyBus s a) :)
@[simp] theorem State.readByte_clockState (s : State) (a : Word) : (s.readByte a).2.clockState = s.clockState :=
  (congrArg State.clockState (State.readByte_onlyBus s a) :)
@[simp] theorem State.readByte_memMap (s : State) (a : Word) : (s.readByte a).2.memMap = s.memMap :=
  (congrArg State.memMap (State.readByte_onlyBus s a) :)
@[simp] theorem State.readByte_ioMap (s : State) (a : Word) : (s.readByte a).2.ioMap = s.ioMap :=
  (congrArg State.ioMap (State.readByte_onlyBus s a) :)
@[simp] theorem State.readByte_sleepBusack (s : State) (a : Word) : (s.readByte a).2.sleepBusack = s.sleepBusack :=
  (congrArg State.sleepBusack (State.readByte_onlyBus s a) :)
@[simp] theorem State.readByte_pins (s : State) (a : Word) : (s.readByte a).2.pins = s.pins :=
  (congrArg State.pins (State.readByte_onlyBus s a) :)
@[simp] theorem State.readByte_inputs (s : State) (a : Word) : (s.readByte a).2.inputs = s.inputs :=
  (congrArg State.inputs (State.readByte_onlyBus s a) :)

/-! Field by field: writeByte. -/

@[simp] theorem State.writeByte_a (s : State) (a : Word) (v : Byte) : (s.writeByte a v).a = s.a :=
  (congrArg State.a (State.writeByte_onlyBus s a v) :)
@[simp] theorem State.writeByte_f (s : State) (a : Word) (v : Byte) : (s.writeByte a v).f = s.f :=
  (congrArg State.f (State.writeByte_onlyBus s a v) :)
@[simp] theorem State.writeByte_b (s : State) (a : Word) (v : Byte) : (s.writeByte a v).b = s.b :=
  (congrArg State.b (State.writeByte_onlyBus s a v) :)
@[simp] theorem State.writeByte_c (s : State) (a : Word) (v : Byte) : (s.writeByte a v).c = s.c :=
  (congrArg State.c (State.writeByte_onlyBus s a v) :)
@[simp] theorem State.writeByte_d (s : State) (a : Word) (v : Byte) : (s.writeByte a v).d = s.d :=
  (congrArg State.d (State.writeByte_onlyBus s a v) :)
@[simp] theorem State.writeByte_e (s : State) (a : Word) (v : Byte) : (s.writeByte a v).e = s.e :=
  (congrArg State.e (State.writeByte_onlyBus s a v) :)
@[simp] theorem State.writeByte_h (s : State) (a : Word) (v : Byte) : (s.writeByte a v).h = s.h :=
  (congrArg State.h (State.writeByte_onlyBus s a v) :)
@[simp] theorem State.writeByte_l (s : State) (a : Word) (v : Byte) : (s.writeByte a v).l = s.l :=
  (congrArg State.l (State.writeByte_onlyBus s a v) :)
@[simp] theorem State.writeByte_aAlt (s : State) (a : Word) (v : Byte) : (s.writeByte a v).aAlt = s.aAlt :=
  (congrArg State.aAlt (State.writeByte_onlyBus s a v) :)
@[simp] theorem State.writeByte_fAlt (s : State) (a : Word) (v : Byte) : (s.writeByte a v).fAlt = s.fAlt :=
  (congrArg State.fAlt (State.writeByte_onlyBus s a v) :)
@[simp] theorem State.writeByte_bAlt (s : State) (a : Word) (v : Byte) : (s.writeByte a v).bAlt = s.bAlt :=
  (congrArg State.bAlt (State.writeByte_onlyBus s a v) :)
@[simp] theorem State.writeByte_cAlt (s : State) (a : Word) (v : Byte) : (s.writeByte a v).cAlt = s.cAlt :=
  (congrArg State.cAlt (State.writeByte_onlyBus s a v) :)
@[simp] theorem State.writeByte_dAlt (s : State) (a : Word) (v : Byte) : (s.writeByte a v).dAlt = s.dAlt :=
  (congrArg State.dAlt (State.writeByte_onlyBus s a v) :)
@[simp] theorem State.writeByte_eAlt (s : State) (a : Word) (v : Byte) : (s.writeByte a v).eAlt = s.eAlt :=
  (congrArg State.eAlt (State.writeByte_onlyBus s a v) :)
@[simp] theorem State.writeByte_hAlt (s : State) (a : Word) (v : Byte) : (s.writeByte a v).hAlt = s.hAlt :=
  (congrArg State.hAlt (State.writeByte_onlyBus s a v) :)
@[simp] theorem State.writeByte_lAlt (s : State) (a : Word) (v : Byte) : (s.writeByte a v).lAlt = s.lAlt :=
  (congrArg State.lAlt (State.writeByte_onlyBus s a v) :)
@[simp] theorem State.writeByte_ix (s : State) (a : Word) (v : Byte) : (s.writeByte a v).ix = s.ix :=
  (congrArg State.ix (State.writeByte_onlyBus s a v) :)
@[simp] theorem State.writeByte_iy (s : State) (a : Word) (v : Byte) : (s.writeByte a v).iy = s.iy :=
  (congrArg State.iy (State.writeByte_onlyBus s a v) :)
@[simp] theorem State.writeByte_sp (s : State) (a : Word) (v : Byte) : (s.writeByte a v).sp = s.sp :=
  (congrArg State.sp (State.writeByte_onlyBus s a v) :)
@[simp] theorem State.writeByte_pc (s : State) (a : Word) (v : Byte) : (s.writeByte a v).pc = s.pc :=
  (congrArg State.pc (State.writeByte_onlyBus s a v) :)
@[simp] theorem State.writeByte_i (s : State) (a : Word) (v : Byte) : (s.writeByte a v).i = s.i :=
  (congrArg State.i (State.writeByte_onlyBus s a v) :)
@[simp] theorem State.writeByte_r (s : State) (a : Word) (v : Byte) : (s.writeByte a v).r = s.r :=
  (congrArg State.r (State.writeByte_onlyBus s a v) :)
@[simp] theorem State.writeByte_iff1 (s : State) (a : Word) (v : Byte) : (s.writeByte a v).iff1 = s.iff1 :=
  (congrArg State.iff1 (State.writeByte_onlyBus s a v) :)
@[simp] theorem State.writeByte_iff2 (s : State) (a : Word) (v : Byte) : (s.writeByte a v).iff2 = s.iff2 :=
  (congrArg State.iff2 (State.writeByte_onlyBus s a v) :)
@[simp] theorem State.writeByte_im (s : State) (a : Word) (v : Byte) : (s.writeByte a v).im = s.im :=
  (congrArg State.im (State.writeByte_onlyBus s a v) :)
@[simp] theorem State.writeByte_halted (s : State) (a : Word) (v : Byte) : (s.writeByte a v).halted = s.halted :=
  (congrArg State.halted (State.writeByte_onlyBus s a v) :)
@[simp] theorem State.writeByte_nmiPending (s : State) (a : Word) (v : Byte) : (s.writeByte a v).nmiPending = s.nmiPending :=
  (congrArg State.nmiPending (State.writeByte_onlyBus s a v) :)
@[simp] theorem State.writeByte_eiShadow (s : State) (a : Word) (v : Byte) : (s.writeByte a v).eiShadow = s.eiShadow :=
  (congrArg State.eiShadow (State.writeByte_onlyBus s a v) :)
@[simp] theorem State.writeByte_busGranted (s : State) (a : Word) (v : Byte) : (s.writeByte a v).busGranted = s.busGranted :=
  (congrArg State.busGranted (State.writeByte_onlyBus s a v) :)
@[simp] theorem State.writeByte_clockState (s : State) (a : Word) (v : Byte) : (s.writeByte a v).clockState = s.clockState :=
  (congrArg State.clockState (State.writeByte_onlyBus s a v) :)
@[simp] theorem State.writeByte_memMap (s : State) (a : Word) (v : Byte) : (s.writeByte a v).memMap = s.memMap :=
  (congrArg State.memMap (State.writeByte_onlyBus s a v) :)
@[simp] theorem State.writeByte_ioMap (s : State) (a : Word) (v : Byte) : (s.writeByte a v).ioMap = s.ioMap :=
  (congrArg State.ioMap (State.writeByte_onlyBus s a v) :)
@[simp] theorem State.writeByte_sleepBusack (s : State) (a : Word) (v : Byte) : (s.writeByte a v).sleepBusack = s.sleepBusack :=
  (congrArg State.sleepBusack (State.writeByte_onlyBus s a v) :)
@[simp] theorem State.writeByte_pins (s : State) (a : Word) (v : Byte) : (s.writeByte a v).pins = s.pins :=
  (congrArg State.pins (State.writeByte_onlyBus s a v) :)
@[simp] theorem State.writeByte_inputs (s : State) (a : Word) (v : Byte) : (s.writeByte a v).inputs = s.inputs :=
  (congrArg State.inputs (State.writeByte_onlyBus s a v) :)

/-! Field by field: readWord. -/

@[simp] theorem State.readWord_a (s : State) (a : Word) : (s.readWord a).2.a = s.a :=
  (congrArg State.a (State.readWord_onlyBus s a) :)
@[simp] theorem State.readWord_f (s : State) (a : Word) : (s.readWord a).2.f = s.f :=
  (congrArg State.f (State.readWord_onlyBus s a) :)
@[simp] theorem State.readWord_b (s : State) (a : Word) : (s.readWord a).2.b = s.b :=
  (congrArg State.b (State.readWord_onlyBus s a) :)
@[simp] theorem State.readWord_c (s : State) (a : Word) : (s.readWord a).2.c = s.c :=
  (congrArg State.c (State.readWord_onlyBus s a) :)
@[simp] theorem State.readWord_d (s : State) (a : Word) : (s.readWord a).2.d = s.d :=
  (congrArg State.d (State.readWord_onlyBus s a) :)
@[simp] theorem State.readWord_e (s : State) (a : Word) : (s.readWord a).2.e = s.e :=
  (congrArg State.e (State.readWord_onlyBus s a) :)
@[simp] theorem State.readWord_h (s : State) (a : Word) : (s.readWord a).2.h = s.h :=
  (congrArg State.h (State.readWord_onlyBus s a) :)
@[simp] theorem State.readWord_l (s : State) (a : Word) : (s.readWord a).2.l = s.l :=
  (congrArg State.l (State.readWord_onlyBus s a) :)
@[simp] theorem State.readWord_aAlt (s : State) (a : Word) : (s.readWord a).2.aAlt = s.aAlt :=
  (congrArg State.aAlt (State.readWord_onlyBus s a) :)
@[simp] theorem State.readWord_fAlt (s : State) (a : Word) : (s.readWord a).2.fAlt = s.fAlt :=
  (congrArg State.fAlt (State.readWord_onlyBus s a) :)
@[simp] theorem State.readWord_bAlt (s : State) (a : Word) : (s.readWord a).2.bAlt = s.bAlt :=
  (congrArg State.bAlt (State.readWord_onlyBus s a) :)
@[simp] theorem State.readWord_cAlt (s : State) (a : Word) : (s.readWord a).2.cAlt = s.cAlt :=
  (congrArg State.cAlt (State.readWord_onlyBus s a) :)
@[simp] theorem State.readWord_dAlt (s : State) (a : Word) : (s.readWord a).2.dAlt = s.dAlt :=
  (congrArg State.dAlt (State.readWord_onlyBus s a) :)
@[simp] theorem State.readWord_eAlt (s : State) (a : Word) : (s.readWord a).2.eAlt = s.eAlt :=
  (congrArg State.eAlt (State.readWord_onlyBus s a) :)
@[simp] theorem State.readWord_hAlt (s : State) (a : Word) : (s.readWord a).2.hAlt = s.hAlt :=
  (congrArg State.hAlt (State.readWord_onlyBus s a) :)
@[simp] theorem State.readWord_lAlt (s : State) (a : Word) : (s.readWord a).2.lAlt = s.lAlt :=
  (congrArg State.lAlt (State.readWord_onlyBus s a) :)
@[simp] theorem State.readWord_ix (s : State) (a : Word) : (s.readWord a).2.ix = s.ix :=
  (congrArg State.ix (State.readWord_onlyBus s a) :)
@[simp] theorem State.readWord_iy (s : State) (a : Word) : (s.readWord a).2.iy = s.iy :=
  (congrArg State.iy (State.readWord_onlyBus s a) :)
@[simp] theorem State.readWord_sp (s : State) (a : Word) : (s.readWord a).2.sp = s.sp :=
  (congrArg State.sp (State.readWord_onlyBus s a) :)
@[simp] theorem State.readWord_pc (s : State) (a : Word) : (s.readWord a).2.pc = s.pc :=
  (congrArg State.pc (State.readWord_onlyBus s a) :)
@[simp] theorem State.readWord_i (s : State) (a : Word) : (s.readWord a).2.i = s.i :=
  (congrArg State.i (State.readWord_onlyBus s a) :)
@[simp] theorem State.readWord_r (s : State) (a : Word) : (s.readWord a).2.r = s.r :=
  (congrArg State.r (State.readWord_onlyBus s a) :)
@[simp] theorem State.readWord_iff1 (s : State) (a : Word) : (s.readWord a).2.iff1 = s.iff1 :=
  (congrArg State.iff1 (State.readWord_onlyBus s a) :)
@[simp] theorem State.readWord_iff2 (s : State) (a : Word) : (s.readWord a).2.iff2 = s.iff2 :=
  (congrArg State.iff2 (State.readWord_onlyBus s a) :)
@[simp] theorem State.readWord_im (s : State) (a : Word) : (s.readWord a).2.im = s.im :=
  (congrArg State.im (State.readWord_onlyBus s a) :)
@[simp] theorem State.readWord_halted (s : State) (a : Word) : (s.readWord a).2.halted = s.halted :=
  (congrArg State.halted (State.readWord_onlyBus s a) :)
@[simp] theorem State.readWord_nmiPending (s : State) (a : Word) : (s.readWord a).2.nmiPending = s.nmiPending :=
  (congrArg State.nmiPending (State.readWord_onlyBus s a) :)
@[simp] theorem State.readWord_eiShadow (s : State) (a : Word) : (s.readWord a).2.eiShadow = s.eiShadow :=
  (congrArg State.eiShadow (State.readWord_onlyBus s a) :)
@[simp] theorem State.readWord_busGranted (s : State) (a : Word) : (s.readWord a).2.busGranted = s.busGranted :=
  (congrArg State.busGranted (State.readWord_onlyBus s a) :)
@[simp] theorem State.readWord_clockState (s : State) (a : Word) : (s.readWord a).2.clockState = s.clockState :=
  (congrArg State.clockState (State.readWord_onlyBus s a) :)
@[simp] theorem State.readWord_memMap (s : State) (a : Word) : (s.readWord a).2.memMap = s.memMap :=
  (congrArg State.memMap (State.readWord_onlyBus s a) :)
@[simp] theorem State.readWord_ioMap (s : State) (a : Word) : (s.readWord a).2.ioMap = s.ioMap :=
  (congrArg State.ioMap (State.readWord_onlyBus s a) :)
@[simp] theorem State.readWord_sleepBusack (s : State) (a : Word) : (s.readWord a).2.sleepBusack = s.sleepBusack :=
  (congrArg State.sleepBusack (State.readWord_onlyBus s a) :)
@[simp] theorem State.readWord_pins (s : State) (a : Word) : (s.readWord a).2.pins = s.pins :=
  (congrArg State.pins (State.readWord_onlyBus s a) :)
@[simp] theorem State.readWord_inputs (s : State) (a : Word) : (s.readWord a).2.inputs = s.inputs :=
  (congrArg State.inputs (State.readWord_onlyBus s a) :)

/-! Field by field: writeWord. -/

@[simp] theorem State.writeWord_a (s : State) (a v : Word) : (s.writeWord a v).a = s.a :=
  (congrArg State.a (State.writeWord_onlyBus s a v) :)
@[simp] theorem State.writeWord_f (s : State) (a v : Word) : (s.writeWord a v).f = s.f :=
  (congrArg State.f (State.writeWord_onlyBus s a v) :)
@[simp] theorem State.writeWord_b (s : State) (a v : Word) : (s.writeWord a v).b = s.b :=
  (congrArg State.b (State.writeWord_onlyBus s a v) :)
@[simp] theorem State.writeWord_c (s : State) (a v : Word) : (s.writeWord a v).c = s.c :=
  (congrArg State.c (State.writeWord_onlyBus s a v) :)
@[simp] theorem State.writeWord_d (s : State) (a v : Word) : (s.writeWord a v).d = s.d :=
  (congrArg State.d (State.writeWord_onlyBus s a v) :)
@[simp] theorem State.writeWord_e (s : State) (a v : Word) : (s.writeWord a v).e = s.e :=
  (congrArg State.e (State.writeWord_onlyBus s a v) :)
@[simp] theorem State.writeWord_h (s : State) (a v : Word) : (s.writeWord a v).h = s.h :=
  (congrArg State.h (State.writeWord_onlyBus s a v) :)
@[simp] theorem State.writeWord_l (s : State) (a v : Word) : (s.writeWord a v).l = s.l :=
  (congrArg State.l (State.writeWord_onlyBus s a v) :)
@[simp] theorem State.writeWord_aAlt (s : State) (a v : Word) : (s.writeWord a v).aAlt = s.aAlt :=
  (congrArg State.aAlt (State.writeWord_onlyBus s a v) :)
@[simp] theorem State.writeWord_fAlt (s : State) (a v : Word) : (s.writeWord a v).fAlt = s.fAlt :=
  (congrArg State.fAlt (State.writeWord_onlyBus s a v) :)
@[simp] theorem State.writeWord_bAlt (s : State) (a v : Word) : (s.writeWord a v).bAlt = s.bAlt :=
  (congrArg State.bAlt (State.writeWord_onlyBus s a v) :)
@[simp] theorem State.writeWord_cAlt (s : State) (a v : Word) : (s.writeWord a v).cAlt = s.cAlt :=
  (congrArg State.cAlt (State.writeWord_onlyBus s a v) :)
@[simp] theorem State.writeWord_dAlt (s : State) (a v : Word) : (s.writeWord a v).dAlt = s.dAlt :=
  (congrArg State.dAlt (State.writeWord_onlyBus s a v) :)
@[simp] theorem State.writeWord_eAlt (s : State) (a v : Word) : (s.writeWord a v).eAlt = s.eAlt :=
  (congrArg State.eAlt (State.writeWord_onlyBus s a v) :)
@[simp] theorem State.writeWord_hAlt (s : State) (a v : Word) : (s.writeWord a v).hAlt = s.hAlt :=
  (congrArg State.hAlt (State.writeWord_onlyBus s a v) :)
@[simp] theorem State.writeWord_lAlt (s : State) (a v : Word) : (s.writeWord a v).lAlt = s.lAlt :=
  (congrArg State.lAlt (State.writeWord_onlyBus s a v) :)
@[simp] theorem State.writeWord_ix (s : State) (a v : Word) : (s.writeWord a v).ix = s.ix :=
  (congrArg State.ix (State.writeWord_onlyBus s a v) :)
@[simp] theorem State.writeWord_iy (s : State) (a v : Word) : (s.writeWord a v).iy = s.iy :=
  (congrArg State.iy (State.writeWord_onlyBus s a v) :)
@[simp] theorem State.writeWord_sp (s : State) (a v : Word) : (s.writeWord a v).sp = s.sp :=
  (congrArg State.sp (State.writeWord_onlyBus s a v) :)
@[simp] theorem State.writeWord_pc (s : State) (a v : Word) : (s.writeWord a v).pc = s.pc :=
  (congrArg State.pc (State.writeWord_onlyBus s a v) :)
@[simp] theorem State.writeWord_i (s : State) (a v : Word) : (s.writeWord a v).i = s.i :=
  (congrArg State.i (State.writeWord_onlyBus s a v) :)
@[simp] theorem State.writeWord_r (s : State) (a v : Word) : (s.writeWord a v).r = s.r :=
  (congrArg State.r (State.writeWord_onlyBus s a v) :)
@[simp] theorem State.writeWord_iff1 (s : State) (a v : Word) : (s.writeWord a v).iff1 = s.iff1 :=
  (congrArg State.iff1 (State.writeWord_onlyBus s a v) :)
@[simp] theorem State.writeWord_iff2 (s : State) (a v : Word) : (s.writeWord a v).iff2 = s.iff2 :=
  (congrArg State.iff2 (State.writeWord_onlyBus s a v) :)
@[simp] theorem State.writeWord_im (s : State) (a v : Word) : (s.writeWord a v).im = s.im :=
  (congrArg State.im (State.writeWord_onlyBus s a v) :)
@[simp] theorem State.writeWord_halted (s : State) (a v : Word) : (s.writeWord a v).halted = s.halted :=
  (congrArg State.halted (State.writeWord_onlyBus s a v) :)
@[simp] theorem State.writeWord_nmiPending (s : State) (a v : Word) : (s.writeWord a v).nmiPending = s.nmiPending :=
  (congrArg State.nmiPending (State.writeWord_onlyBus s a v) :)
@[simp] theorem State.writeWord_eiShadow (s : State) (a v : Word) : (s.writeWord a v).eiShadow = s.eiShadow :=
  (congrArg State.eiShadow (State.writeWord_onlyBus s a v) :)
@[simp] theorem State.writeWord_busGranted (s : State) (a v : Word) : (s.writeWord a v).busGranted = s.busGranted :=
  (congrArg State.busGranted (State.writeWord_onlyBus s a v) :)
@[simp] theorem State.writeWord_clockState (s : State) (a v : Word) : (s.writeWord a v).clockState = s.clockState :=
  (congrArg State.clockState (State.writeWord_onlyBus s a v) :)
@[simp] theorem State.writeWord_memMap (s : State) (a v : Word) : (s.writeWord a v).memMap = s.memMap :=
  (congrArg State.memMap (State.writeWord_onlyBus s a v) :)
@[simp] theorem State.writeWord_ioMap (s : State) (a v : Word) : (s.writeWord a v).ioMap = s.ioMap :=
  (congrArg State.ioMap (State.writeWord_onlyBus s a v) :)
@[simp] theorem State.writeWord_sleepBusack (s : State) (a v : Word) : (s.writeWord a v).sleepBusack = s.sleepBusack :=
  (congrArg State.sleepBusack (State.writeWord_onlyBus s a v) :)
@[simp] theorem State.writeWord_pins (s : State) (a v : Word) : (s.writeWord a v).pins = s.pins :=
  (congrArg State.pins (State.writeWord_onlyBus s a v) :)
@[simp] theorem State.writeWord_inputs (s : State) (a v : Word) : (s.writeWord a v).inputs = s.inputs :=
  (congrArg State.inputs (State.writeWord_onlyBus s a v) :)

/-! Field by field: modifyByte. -/

@[simp] theorem State.modifyByte_a (s : State) (a : Word) (g : Byte → Byte) : (s.modifyByte a g).a = s.a :=
  (congrArg State.a (State.modifyByte_onlyBus s a g) :)
@[simp] theorem State.modifyByte_f (s : State) (a : Word) (g : Byte → Byte) : (s.modifyByte a g).f = s.f :=
  (congrArg State.f (State.modifyByte_onlyBus s a g) :)
@[simp] theorem State.modifyByte_b (s : State) (a : Word) (g : Byte → Byte) : (s.modifyByte a g).b = s.b :=
  (congrArg State.b (State.modifyByte_onlyBus s a g) :)
@[simp] theorem State.modifyByte_c (s : State) (a : Word) (g : Byte → Byte) : (s.modifyByte a g).c = s.c :=
  (congrArg State.c (State.modifyByte_onlyBus s a g) :)
@[simp] theorem State.modifyByte_d (s : State) (a : Word) (g : Byte → Byte) : (s.modifyByte a g).d = s.d :=
  (congrArg State.d (State.modifyByte_onlyBus s a g) :)
@[simp] theorem State.modifyByte_e (s : State) (a : Word) (g : Byte → Byte) : (s.modifyByte a g).e = s.e :=
  (congrArg State.e (State.modifyByte_onlyBus s a g) :)
@[simp] theorem State.modifyByte_h (s : State) (a : Word) (g : Byte → Byte) : (s.modifyByte a g).h = s.h :=
  (congrArg State.h (State.modifyByte_onlyBus s a g) :)
@[simp] theorem State.modifyByte_l (s : State) (a : Word) (g : Byte → Byte) : (s.modifyByte a g).l = s.l :=
  (congrArg State.l (State.modifyByte_onlyBus s a g) :)
@[simp] theorem State.modifyByte_aAlt (s : State) (a : Word) (g : Byte → Byte) : (s.modifyByte a g).aAlt = s.aAlt :=
  (congrArg State.aAlt (State.modifyByte_onlyBus s a g) :)
@[simp] theorem State.modifyByte_fAlt (s : State) (a : Word) (g : Byte → Byte) : (s.modifyByte a g).fAlt = s.fAlt :=
  (congrArg State.fAlt (State.modifyByte_onlyBus s a g) :)
@[simp] theorem State.modifyByte_bAlt (s : State) (a : Word) (g : Byte → Byte) : (s.modifyByte a g).bAlt = s.bAlt :=
  (congrArg State.bAlt (State.modifyByte_onlyBus s a g) :)
@[simp] theorem State.modifyByte_cAlt (s : State) (a : Word) (g : Byte → Byte) : (s.modifyByte a g).cAlt = s.cAlt :=
  (congrArg State.cAlt (State.modifyByte_onlyBus s a g) :)
@[simp] theorem State.modifyByte_dAlt (s : State) (a : Word) (g : Byte → Byte) : (s.modifyByte a g).dAlt = s.dAlt :=
  (congrArg State.dAlt (State.modifyByte_onlyBus s a g) :)
@[simp] theorem State.modifyByte_eAlt (s : State) (a : Word) (g : Byte → Byte) : (s.modifyByte a g).eAlt = s.eAlt :=
  (congrArg State.eAlt (State.modifyByte_onlyBus s a g) :)
@[simp] theorem State.modifyByte_hAlt (s : State) (a : Word) (g : Byte → Byte) : (s.modifyByte a g).hAlt = s.hAlt :=
  (congrArg State.hAlt (State.modifyByte_onlyBus s a g) :)
@[simp] theorem State.modifyByte_lAlt (s : State) (a : Word) (g : Byte → Byte) : (s.modifyByte a g).lAlt = s.lAlt :=
  (congrArg State.lAlt (State.modifyByte_onlyBus s a g) :)
@[simp] theorem State.modifyByte_ix (s : State) (a : Word) (g : Byte → Byte) : (s.modifyByte a g).ix = s.ix :=
  (congrArg State.ix (State.modifyByte_onlyBus s a g) :)
@[simp] theorem State.modifyByte_iy (s : State) (a : Word) (g : Byte → Byte) : (s.modifyByte a g).iy = s.iy :=
  (congrArg State.iy (State.modifyByte_onlyBus s a g) :)
@[simp] theorem State.modifyByte_sp (s : State) (a : Word) (g : Byte → Byte) : (s.modifyByte a g).sp = s.sp :=
  (congrArg State.sp (State.modifyByte_onlyBus s a g) :)
@[simp] theorem State.modifyByte_pc (s : State) (a : Word) (g : Byte → Byte) : (s.modifyByte a g).pc = s.pc :=
  (congrArg State.pc (State.modifyByte_onlyBus s a g) :)
@[simp] theorem State.modifyByte_i (s : State) (a : Word) (g : Byte → Byte) : (s.modifyByte a g).i = s.i :=
  (congrArg State.i (State.modifyByte_onlyBus s a g) :)
@[simp] theorem State.modifyByte_r (s : State) (a : Word) (g : Byte → Byte) : (s.modifyByte a g).r = s.r :=
  (congrArg State.r (State.modifyByte_onlyBus s a g) :)
@[simp] theorem State.modifyByte_iff1 (s : State) (a : Word) (g : Byte → Byte) : (s.modifyByte a g).iff1 = s.iff1 :=
  (congrArg State.iff1 (State.modifyByte_onlyBus s a g) :)
@[simp] theorem State.modifyByte_iff2 (s : State) (a : Word) (g : Byte → Byte) : (s.modifyByte a g).iff2 = s.iff2 :=
  (congrArg State.iff2 (State.modifyByte_onlyBus s a g) :)
@[simp] theorem State.modifyByte_im (s : State) (a : Word) (g : Byte → Byte) : (s.modifyByte a g).im = s.im :=
  (congrArg State.im (State.modifyByte_onlyBus s a g) :)
@[simp] theorem State.modifyByte_halted (s : State) (a : Word) (g : Byte → Byte) : (s.modifyByte a g).halted = s.halted :=
  (congrArg State.halted (State.modifyByte_onlyBus s a g) :)
@[simp] theorem State.modifyByte_nmiPending (s : State) (a : Word) (g : Byte → Byte) : (s.modifyByte a g).nmiPending = s.nmiPending :=
  (congrArg State.nmiPending (State.modifyByte_onlyBus s a g) :)
@[simp] theorem State.modifyByte_eiShadow (s : State) (a : Word) (g : Byte → Byte) : (s.modifyByte a g).eiShadow = s.eiShadow :=
  (congrArg State.eiShadow (State.modifyByte_onlyBus s a g) :)
@[simp] theorem State.modifyByte_busGranted (s : State) (a : Word) (g : Byte → Byte) : (s.modifyByte a g).busGranted = s.busGranted :=
  (congrArg State.busGranted (State.modifyByte_onlyBus s a g) :)
@[simp] theorem State.modifyByte_clockState (s : State) (a : Word) (g : Byte → Byte) : (s.modifyByte a g).clockState = s.clockState :=
  (congrArg State.clockState (State.modifyByte_onlyBus s a g) :)
@[simp] theorem State.modifyByte_memMap (s : State) (a : Word) (g : Byte → Byte) : (s.modifyByte a g).memMap = s.memMap :=
  (congrArg State.memMap (State.modifyByte_onlyBus s a g) :)
@[simp] theorem State.modifyByte_ioMap (s : State) (a : Word) (g : Byte → Byte) : (s.modifyByte a g).ioMap = s.ioMap :=
  (congrArg State.ioMap (State.modifyByte_onlyBus s a g) :)
@[simp] theorem State.modifyByte_sleepBusack (s : State) (a : Word) (g : Byte → Byte) : (s.modifyByte a g).sleepBusack = s.sleepBusack :=
  (congrArg State.sleepBusack (State.modifyByte_onlyBus s a g) :)
@[simp] theorem State.modifyByte_pins (s : State) (a : Word) (g : Byte → Byte) : (s.modifyByte a g).pins = s.pins :=
  (congrArg State.pins (State.modifyByte_onlyBus s a g) :)
@[simp] theorem State.modifyByte_inputs (s : State) (a : Word) (g : Byte → Byte) : (s.modifyByte a g).inputs = s.inputs :=
  (congrArg State.inputs (State.modifyByte_onlyBus s a g) :)

/-! Field by field: ioRead. -/

@[simp] theorem State.ioRead_a (s : State) (p : Word) : (s.ioRead p).2.a = s.a :=
  (congrArg State.a (State.ioRead_onlyBus s p) :)
@[simp] theorem State.ioRead_f (s : State) (p : Word) : (s.ioRead p).2.f = s.f :=
  (congrArg State.f (State.ioRead_onlyBus s p) :)
@[simp] theorem State.ioRead_b (s : State) (p : Word) : (s.ioRead p).2.b = s.b :=
  (congrArg State.b (State.ioRead_onlyBus s p) :)
@[simp] theorem State.ioRead_c (s : State) (p : Word) : (s.ioRead p).2.c = s.c :=
  (congrArg State.c (State.ioRead_onlyBus s p) :)
@[simp] theorem State.ioRead_d (s : State) (p : Word) : (s.ioRead p).2.d = s.d :=
  (congrArg State.d (State.ioRead_onlyBus s p) :)
@[simp] theorem State.ioRead_e (s : State) (p : Word) : (s.ioRead p).2.e = s.e :=
  (congrArg State.e (State.ioRead_onlyBus s p) :)
@[simp] theorem State.ioRead_h (s : State) (p : Word) : (s.ioRead p).2.h = s.h :=
  (congrArg State.h (State.ioRead_onlyBus s p) :)
@[simp] theorem State.ioRead_l (s : State) (p : Word) : (s.ioRead p).2.l = s.l :=
  (congrArg State.l (State.ioRead_onlyBus s p) :)
@[simp] theorem State.ioRead_aAlt (s : State) (p : Word) : (s.ioRead p).2.aAlt = s.aAlt :=
  (congrArg State.aAlt (State.ioRead_onlyBus s p) :)
@[simp] theorem State.ioRead_fAlt (s : State) (p : Word) : (s.ioRead p).2.fAlt = s.fAlt :=
  (congrArg State.fAlt (State.ioRead_onlyBus s p) :)
@[simp] theorem State.ioRead_bAlt (s : State) (p : Word) : (s.ioRead p).2.bAlt = s.bAlt :=
  (congrArg State.bAlt (State.ioRead_onlyBus s p) :)
@[simp] theorem State.ioRead_cAlt (s : State) (p : Word) : (s.ioRead p).2.cAlt = s.cAlt :=
  (congrArg State.cAlt (State.ioRead_onlyBus s p) :)
@[simp] theorem State.ioRead_dAlt (s : State) (p : Word) : (s.ioRead p).2.dAlt = s.dAlt :=
  (congrArg State.dAlt (State.ioRead_onlyBus s p) :)
@[simp] theorem State.ioRead_eAlt (s : State) (p : Word) : (s.ioRead p).2.eAlt = s.eAlt :=
  (congrArg State.eAlt (State.ioRead_onlyBus s p) :)
@[simp] theorem State.ioRead_hAlt (s : State) (p : Word) : (s.ioRead p).2.hAlt = s.hAlt :=
  (congrArg State.hAlt (State.ioRead_onlyBus s p) :)
@[simp] theorem State.ioRead_lAlt (s : State) (p : Word) : (s.ioRead p).2.lAlt = s.lAlt :=
  (congrArg State.lAlt (State.ioRead_onlyBus s p) :)
@[simp] theorem State.ioRead_ix (s : State) (p : Word) : (s.ioRead p).2.ix = s.ix :=
  (congrArg State.ix (State.ioRead_onlyBus s p) :)
@[simp] theorem State.ioRead_iy (s : State) (p : Word) : (s.ioRead p).2.iy = s.iy :=
  (congrArg State.iy (State.ioRead_onlyBus s p) :)
@[simp] theorem State.ioRead_sp (s : State) (p : Word) : (s.ioRead p).2.sp = s.sp :=
  (congrArg State.sp (State.ioRead_onlyBus s p) :)
@[simp] theorem State.ioRead_pc (s : State) (p : Word) : (s.ioRead p).2.pc = s.pc :=
  (congrArg State.pc (State.ioRead_onlyBus s p) :)
@[simp] theorem State.ioRead_i (s : State) (p : Word) : (s.ioRead p).2.i = s.i :=
  (congrArg State.i (State.ioRead_onlyBus s p) :)
@[simp] theorem State.ioRead_r (s : State) (p : Word) : (s.ioRead p).2.r = s.r :=
  (congrArg State.r (State.ioRead_onlyBus s p) :)
@[simp] theorem State.ioRead_iff1 (s : State) (p : Word) : (s.ioRead p).2.iff1 = s.iff1 :=
  (congrArg State.iff1 (State.ioRead_onlyBus s p) :)
@[simp] theorem State.ioRead_iff2 (s : State) (p : Word) : (s.ioRead p).2.iff2 = s.iff2 :=
  (congrArg State.iff2 (State.ioRead_onlyBus s p) :)
@[simp] theorem State.ioRead_im (s : State) (p : Word) : (s.ioRead p).2.im = s.im :=
  (congrArg State.im (State.ioRead_onlyBus s p) :)
@[simp] theorem State.ioRead_halted (s : State) (p : Word) : (s.ioRead p).2.halted = s.halted :=
  (congrArg State.halted (State.ioRead_onlyBus s p) :)
@[simp] theorem State.ioRead_nmiPending (s : State) (p : Word) : (s.ioRead p).2.nmiPending = s.nmiPending :=
  (congrArg State.nmiPending (State.ioRead_onlyBus s p) :)
@[simp] theorem State.ioRead_eiShadow (s : State) (p : Word) : (s.ioRead p).2.eiShadow = s.eiShadow :=
  (congrArg State.eiShadow (State.ioRead_onlyBus s p) :)
@[simp] theorem State.ioRead_busGranted (s : State) (p : Word) : (s.ioRead p).2.busGranted = s.busGranted :=
  (congrArg State.busGranted (State.ioRead_onlyBus s p) :)
@[simp] theorem State.ioRead_clockState (s : State) (p : Word) : (s.ioRead p).2.clockState = s.clockState :=
  (congrArg State.clockState (State.ioRead_onlyBus s p) :)
@[simp] theorem State.ioRead_memMap (s : State) (p : Word) : (s.ioRead p).2.memMap = s.memMap :=
  (congrArg State.memMap (State.ioRead_onlyBus s p) :)
@[simp] theorem State.ioRead_ioMap (s : State) (p : Word) : (s.ioRead p).2.ioMap = s.ioMap :=
  (congrArg State.ioMap (State.ioRead_onlyBus s p) :)
@[simp] theorem State.ioRead_sleepBusack (s : State) (p : Word) : (s.ioRead p).2.sleepBusack = s.sleepBusack :=
  (congrArg State.sleepBusack (State.ioRead_onlyBus s p) :)
@[simp] theorem State.ioRead_pins (s : State) (p : Word) : (s.ioRead p).2.pins = s.pins :=
  (congrArg State.pins (State.ioRead_onlyBus s p) :)
@[simp] theorem State.ioRead_inputs (s : State) (p : Word) : (s.ioRead p).2.inputs = s.inputs :=
  (congrArg State.inputs (State.ioRead_onlyBus s p) :)

/-! Field by field: ioWrite. -/

@[simp] theorem State.ioWrite_a (s : State) (p : Word) (v : Byte) : (s.ioWrite p v).a = s.a :=
  (congrArg State.a (State.ioWrite_onlyBus s p v) :)
@[simp] theorem State.ioWrite_f (s : State) (p : Word) (v : Byte) : (s.ioWrite p v).f = s.f :=
  (congrArg State.f (State.ioWrite_onlyBus s p v) :)
@[simp] theorem State.ioWrite_b (s : State) (p : Word) (v : Byte) : (s.ioWrite p v).b = s.b :=
  (congrArg State.b (State.ioWrite_onlyBus s p v) :)
@[simp] theorem State.ioWrite_c (s : State) (p : Word) (v : Byte) : (s.ioWrite p v).c = s.c :=
  (congrArg State.c (State.ioWrite_onlyBus s p v) :)
@[simp] theorem State.ioWrite_d (s : State) (p : Word) (v : Byte) : (s.ioWrite p v).d = s.d :=
  (congrArg State.d (State.ioWrite_onlyBus s p v) :)
@[simp] theorem State.ioWrite_e (s : State) (p : Word) (v : Byte) : (s.ioWrite p v).e = s.e :=
  (congrArg State.e (State.ioWrite_onlyBus s p v) :)
@[simp] theorem State.ioWrite_h (s : State) (p : Word) (v : Byte) : (s.ioWrite p v).h = s.h :=
  (congrArg State.h (State.ioWrite_onlyBus s p v) :)
@[simp] theorem State.ioWrite_l (s : State) (p : Word) (v : Byte) : (s.ioWrite p v).l = s.l :=
  (congrArg State.l (State.ioWrite_onlyBus s p v) :)
@[simp] theorem State.ioWrite_aAlt (s : State) (p : Word) (v : Byte) : (s.ioWrite p v).aAlt = s.aAlt :=
  (congrArg State.aAlt (State.ioWrite_onlyBus s p v) :)
@[simp] theorem State.ioWrite_fAlt (s : State) (p : Word) (v : Byte) : (s.ioWrite p v).fAlt = s.fAlt :=
  (congrArg State.fAlt (State.ioWrite_onlyBus s p v) :)
@[simp] theorem State.ioWrite_bAlt (s : State) (p : Word) (v : Byte) : (s.ioWrite p v).bAlt = s.bAlt :=
  (congrArg State.bAlt (State.ioWrite_onlyBus s p v) :)
@[simp] theorem State.ioWrite_cAlt (s : State) (p : Word) (v : Byte) : (s.ioWrite p v).cAlt = s.cAlt :=
  (congrArg State.cAlt (State.ioWrite_onlyBus s p v) :)
@[simp] theorem State.ioWrite_dAlt (s : State) (p : Word) (v : Byte) : (s.ioWrite p v).dAlt = s.dAlt :=
  (congrArg State.dAlt (State.ioWrite_onlyBus s p v) :)
@[simp] theorem State.ioWrite_eAlt (s : State) (p : Word) (v : Byte) : (s.ioWrite p v).eAlt = s.eAlt :=
  (congrArg State.eAlt (State.ioWrite_onlyBus s p v) :)
@[simp] theorem State.ioWrite_hAlt (s : State) (p : Word) (v : Byte) : (s.ioWrite p v).hAlt = s.hAlt :=
  (congrArg State.hAlt (State.ioWrite_onlyBus s p v) :)
@[simp] theorem State.ioWrite_lAlt (s : State) (p : Word) (v : Byte) : (s.ioWrite p v).lAlt = s.lAlt :=
  (congrArg State.lAlt (State.ioWrite_onlyBus s p v) :)
@[simp] theorem State.ioWrite_ix (s : State) (p : Word) (v : Byte) : (s.ioWrite p v).ix = s.ix :=
  (congrArg State.ix (State.ioWrite_onlyBus s p v) :)
@[simp] theorem State.ioWrite_iy (s : State) (p : Word) (v : Byte) : (s.ioWrite p v).iy = s.iy :=
  (congrArg State.iy (State.ioWrite_onlyBus s p v) :)
@[simp] theorem State.ioWrite_sp (s : State) (p : Word) (v : Byte) : (s.ioWrite p v).sp = s.sp :=
  (congrArg State.sp (State.ioWrite_onlyBus s p v) :)
@[simp] theorem State.ioWrite_pc (s : State) (p : Word) (v : Byte) : (s.ioWrite p v).pc = s.pc :=
  (congrArg State.pc (State.ioWrite_onlyBus s p v) :)
@[simp] theorem State.ioWrite_i (s : State) (p : Word) (v : Byte) : (s.ioWrite p v).i = s.i :=
  (congrArg State.i (State.ioWrite_onlyBus s p v) :)
@[simp] theorem State.ioWrite_r (s : State) (p : Word) (v : Byte) : (s.ioWrite p v).r = s.r :=
  (congrArg State.r (State.ioWrite_onlyBus s p v) :)
@[simp] theorem State.ioWrite_iff1 (s : State) (p : Word) (v : Byte) : (s.ioWrite p v).iff1 = s.iff1 :=
  (congrArg State.iff1 (State.ioWrite_onlyBus s p v) :)
@[simp] theorem State.ioWrite_iff2 (s : State) (p : Word) (v : Byte) : (s.ioWrite p v).iff2 = s.iff2 :=
  (congrArg State.iff2 (State.ioWrite_onlyBus s p v) :)
@[simp] theorem State.ioWrite_im (s : State) (p : Word) (v : Byte) : (s.ioWrite p v).im = s.im :=
  (congrArg State.im (State.ioWrite_onlyBus s p v) :)
@[simp] theorem State.ioWrite_halted (s : State) (p : Word) (v : Byte) : (s.ioWrite p v).halted = s.halted :=
  (congrArg State.halted (State.ioWrite_onlyBus s p v) :)
@[simp] theorem State.ioWrite_nmiPending (s : State) (p : Word) (v : Byte) : (s.ioWrite p v).nmiPending = s.nmiPending :=
  (congrArg State.nmiPending (State.ioWrite_onlyBus s p v) :)
@[simp] theorem State.ioWrite_eiShadow (s : State) (p : Word) (v : Byte) : (s.ioWrite p v).eiShadow = s.eiShadow :=
  (congrArg State.eiShadow (State.ioWrite_onlyBus s p v) :)
@[simp] theorem State.ioWrite_busGranted (s : State) (p : Word) (v : Byte) : (s.ioWrite p v).busGranted = s.busGranted :=
  (congrArg State.busGranted (State.ioWrite_onlyBus s p v) :)
@[simp] theorem State.ioWrite_clockState (s : State) (p : Word) (v : Byte) : (s.ioWrite p v).clockState = s.clockState :=
  (congrArg State.clockState (State.ioWrite_onlyBus s p v) :)
@[simp] theorem State.ioWrite_memMap (s : State) (p : Word) (v : Byte) : (s.ioWrite p v).memMap = s.memMap :=
  (congrArg State.memMap (State.ioWrite_onlyBus s p v) :)
@[simp] theorem State.ioWrite_ioMap (s : State) (p : Word) (v : Byte) : (s.ioWrite p v).ioMap = s.ioMap :=
  (congrArg State.ioMap (State.ioWrite_onlyBus s p v) :)
@[simp] theorem State.ioWrite_sleepBusack (s : State) (p : Word) (v : Byte) : (s.ioWrite p v).sleepBusack = s.sleepBusack :=
  (congrArg State.sleepBusack (State.ioWrite_onlyBus s p v) :)
@[simp] theorem State.ioWrite_pins (s : State) (p : Word) (v : Byte) : (s.ioWrite p v).pins = s.pins :=
  (congrArg State.pins (State.ioWrite_onlyBus s p v) :)
@[simp] theorem State.ioWrite_inputs (s : State) (p : Word) (v : Byte) : (s.ioWrite p v).inputs = s.inputs :=
  (congrArg State.inputs (State.ioWrite_onlyBus s p v) :)

/-! Field by field: push16. -/

@[simp] theorem State.push16_a (s : State) (v : Word) : (s.push16 v).a = s.a :=
  (congrArg State.a (State.push16_onlyBus s v) :)
@[simp] theorem State.push16_f (s : State) (v : Word) : (s.push16 v).f = s.f :=
  (congrArg State.f (State.push16_onlyBus s v) :)
@[simp] theorem State.push16_b (s : State) (v : Word) : (s.push16 v).b = s.b :=
  (congrArg State.b (State.push16_onlyBus s v) :)
@[simp] theorem State.push16_c (s : State) (v : Word) : (s.push16 v).c = s.c :=
  (congrArg State.c (State.push16_onlyBus s v) :)
@[simp] theorem State.push16_d (s : State) (v : Word) : (s.push16 v).d = s.d :=
  (congrArg State.d (State.push16_onlyBus s v) :)
@[simp] theorem State.push16_e (s : State) (v : Word) : (s.push16 v).e = s.e :=
  (congrArg State.e (State.push16_onlyBus s v) :)
@[simp] theorem State.push16_h (s : State) (v : Word) : (s.push16 v).h = s.h :=
  (congrArg State.h (State.push16_onlyBus s v) :)
@[simp] theorem State.push16_l (s : State) (v : Word) : (s.push16 v).l = s.l :=
  (congrArg State.l (State.push16_onlyBus s v) :)
@[simp] theorem State.push16_aAlt (s : State) (v : Word) : (s.push16 v).aAlt = s.aAlt :=
  (congrArg State.aAlt (State.push16_onlyBus s v) :)
@[simp] theorem State.push16_fAlt (s : State) (v : Word) : (s.push16 v).fAlt = s.fAlt :=
  (congrArg State.fAlt (State.push16_onlyBus s v) :)
@[simp] theorem State.push16_bAlt (s : State) (v : Word) : (s.push16 v).bAlt = s.bAlt :=
  (congrArg State.bAlt (State.push16_onlyBus s v) :)
@[simp] theorem State.push16_cAlt (s : State) (v : Word) : (s.push16 v).cAlt = s.cAlt :=
  (congrArg State.cAlt (State.push16_onlyBus s v) :)
@[simp] theorem State.push16_dAlt (s : State) (v : Word) : (s.push16 v).dAlt = s.dAlt :=
  (congrArg State.dAlt (State.push16_onlyBus s v) :)
@[simp] theorem State.push16_eAlt (s : State) (v : Word) : (s.push16 v).eAlt = s.eAlt :=
  (congrArg State.eAlt (State.push16_onlyBus s v) :)
@[simp] theorem State.push16_hAlt (s : State) (v : Word) : (s.push16 v).hAlt = s.hAlt :=
  (congrArg State.hAlt (State.push16_onlyBus s v) :)
@[simp] theorem State.push16_lAlt (s : State) (v : Word) : (s.push16 v).lAlt = s.lAlt :=
  (congrArg State.lAlt (State.push16_onlyBus s v) :)
@[simp] theorem State.push16_ix (s : State) (v : Word) : (s.push16 v).ix = s.ix :=
  (congrArg State.ix (State.push16_onlyBus s v) :)
@[simp] theorem State.push16_iy (s : State) (v : Word) : (s.push16 v).iy = s.iy :=
  (congrArg State.iy (State.push16_onlyBus s v) :)
@[simp] theorem State.push16_sp (s : State) (v : Word) : (s.push16 v).sp = s.sp - 2 :=
  (congrArg State.sp (State.push16_onlyBus s v) :)
@[simp] theorem State.push16_pc (s : State) (v : Word) : (s.push16 v).pc = s.pc :=
  (congrArg State.pc (State.push16_onlyBus s v) :)
@[simp] theorem State.push16_i (s : State) (v : Word) : (s.push16 v).i = s.i :=
  (congrArg State.i (State.push16_onlyBus s v) :)
@[simp] theorem State.push16_r (s : State) (v : Word) : (s.push16 v).r = s.r :=
  (congrArg State.r (State.push16_onlyBus s v) :)
@[simp] theorem State.push16_iff1 (s : State) (v : Word) : (s.push16 v).iff1 = s.iff1 :=
  (congrArg State.iff1 (State.push16_onlyBus s v) :)
@[simp] theorem State.push16_iff2 (s : State) (v : Word) : (s.push16 v).iff2 = s.iff2 :=
  (congrArg State.iff2 (State.push16_onlyBus s v) :)
@[simp] theorem State.push16_im (s : State) (v : Word) : (s.push16 v).im = s.im :=
  (congrArg State.im (State.push16_onlyBus s v) :)
@[simp] theorem State.push16_halted (s : State) (v : Word) : (s.push16 v).halted = s.halted :=
  (congrArg State.halted (State.push16_onlyBus s v) :)
@[simp] theorem State.push16_nmiPending (s : State) (v : Word) : (s.push16 v).nmiPending = s.nmiPending :=
  (congrArg State.nmiPending (State.push16_onlyBus s v) :)
@[simp] theorem State.push16_eiShadow (s : State) (v : Word) : (s.push16 v).eiShadow = s.eiShadow :=
  (congrArg State.eiShadow (State.push16_onlyBus s v) :)
@[simp] theorem State.push16_busGranted (s : State) (v : Word) : (s.push16 v).busGranted = s.busGranted :=
  (congrArg State.busGranted (State.push16_onlyBus s v) :)
@[simp] theorem State.push16_clockState (s : State) (v : Word) : (s.push16 v).clockState = s.clockState :=
  (congrArg State.clockState (State.push16_onlyBus s v) :)
@[simp] theorem State.push16_memMap (s : State) (v : Word) : (s.push16 v).memMap = s.memMap :=
  (congrArg State.memMap (State.push16_onlyBus s v) :)
@[simp] theorem State.push16_ioMap (s : State) (v : Word) : (s.push16 v).ioMap = s.ioMap :=
  (congrArg State.ioMap (State.push16_onlyBus s v) :)
@[simp] theorem State.push16_sleepBusack (s : State) (v : Word) : (s.push16 v).sleepBusack = s.sleepBusack :=
  (congrArg State.sleepBusack (State.push16_onlyBus s v) :)
@[simp] theorem State.push16_pins (s : State) (v : Word) : (s.push16 v).pins = s.pins :=
  (congrArg State.pins (State.push16_onlyBus s v) :)
@[simp] theorem State.push16_inputs (s : State) (v : Word) : (s.push16 v).inputs = s.inputs :=
  (congrArg State.inputs (State.push16_onlyBus s v) :)

/-! Field by field: pop16. -/

@[simp] theorem State.pop16_a (s : State) : s.pop16.2.a = s.a :=
  (congrArg State.a (State.pop16_onlyBus s) :)
@[simp] theorem State.pop16_f (s : State) : s.pop16.2.f = s.f :=
  (congrArg State.f (State.pop16_onlyBus s) :)
@[simp] theorem State.pop16_b (s : State) : s.pop16.2.b = s.b :=
  (congrArg State.b (State.pop16_onlyBus s) :)
@[simp] theorem State.pop16_c (s : State) : s.pop16.2.c = s.c :=
  (congrArg State.c (State.pop16_onlyBus s) :)
@[simp] theorem State.pop16_d (s : State) : s.pop16.2.d = s.d :=
  (congrArg State.d (State.pop16_onlyBus s) :)
@[simp] theorem State.pop16_e (s : State) : s.pop16.2.e = s.e :=
  (congrArg State.e (State.pop16_onlyBus s) :)
@[simp] theorem State.pop16_h (s : State) : s.pop16.2.h = s.h :=
  (congrArg State.h (State.pop16_onlyBus s) :)
@[simp] theorem State.pop16_l (s : State) : s.pop16.2.l = s.l :=
  (congrArg State.l (State.pop16_onlyBus s) :)
@[simp] theorem State.pop16_aAlt (s : State) : s.pop16.2.aAlt = s.aAlt :=
  (congrArg State.aAlt (State.pop16_onlyBus s) :)
@[simp] theorem State.pop16_fAlt (s : State) : s.pop16.2.fAlt = s.fAlt :=
  (congrArg State.fAlt (State.pop16_onlyBus s) :)
@[simp] theorem State.pop16_bAlt (s : State) : s.pop16.2.bAlt = s.bAlt :=
  (congrArg State.bAlt (State.pop16_onlyBus s) :)
@[simp] theorem State.pop16_cAlt (s : State) : s.pop16.2.cAlt = s.cAlt :=
  (congrArg State.cAlt (State.pop16_onlyBus s) :)
@[simp] theorem State.pop16_dAlt (s : State) : s.pop16.2.dAlt = s.dAlt :=
  (congrArg State.dAlt (State.pop16_onlyBus s) :)
@[simp] theorem State.pop16_eAlt (s : State) : s.pop16.2.eAlt = s.eAlt :=
  (congrArg State.eAlt (State.pop16_onlyBus s) :)
@[simp] theorem State.pop16_hAlt (s : State) : s.pop16.2.hAlt = s.hAlt :=
  (congrArg State.hAlt (State.pop16_onlyBus s) :)
@[simp] theorem State.pop16_lAlt (s : State) : s.pop16.2.lAlt = s.lAlt :=
  (congrArg State.lAlt (State.pop16_onlyBus s) :)
@[simp] theorem State.pop16_ix (s : State) : s.pop16.2.ix = s.ix :=
  (congrArg State.ix (State.pop16_onlyBus s) :)
@[simp] theorem State.pop16_iy (s : State) : s.pop16.2.iy = s.iy :=
  (congrArg State.iy (State.pop16_onlyBus s) :)
@[simp] theorem State.pop16_sp (s : State) : s.pop16.2.sp = s.sp + 2 :=
  (congrArg State.sp (State.pop16_onlyBus s) :)
@[simp] theorem State.pop16_pc (s : State) : s.pop16.2.pc = s.pc :=
  (congrArg State.pc (State.pop16_onlyBus s) :)
@[simp] theorem State.pop16_i (s : State) : s.pop16.2.i = s.i :=
  (congrArg State.i (State.pop16_onlyBus s) :)
@[simp] theorem State.pop16_r (s : State) : s.pop16.2.r = s.r :=
  (congrArg State.r (State.pop16_onlyBus s) :)
@[simp] theorem State.pop16_iff1 (s : State) : s.pop16.2.iff1 = s.iff1 :=
  (congrArg State.iff1 (State.pop16_onlyBus s) :)
@[simp] theorem State.pop16_iff2 (s : State) : s.pop16.2.iff2 = s.iff2 :=
  (congrArg State.iff2 (State.pop16_onlyBus s) :)
@[simp] theorem State.pop16_im (s : State) : s.pop16.2.im = s.im :=
  (congrArg State.im (State.pop16_onlyBus s) :)
@[simp] theorem State.pop16_halted (s : State) : s.pop16.2.halted = s.halted :=
  (congrArg State.halted (State.pop16_onlyBus s) :)
@[simp] theorem State.pop16_nmiPending (s : State) : s.pop16.2.nmiPending = s.nmiPending :=
  (congrArg State.nmiPending (State.pop16_onlyBus s) :)
@[simp] theorem State.pop16_eiShadow (s : State) : s.pop16.2.eiShadow = s.eiShadow :=
  (congrArg State.eiShadow (State.pop16_onlyBus s) :)
@[simp] theorem State.pop16_busGranted (s : State) : s.pop16.2.busGranted = s.busGranted :=
  (congrArg State.busGranted (State.pop16_onlyBus s) :)
@[simp] theorem State.pop16_clockState (s : State) : s.pop16.2.clockState = s.clockState :=
  (congrArg State.clockState (State.pop16_onlyBus s) :)
@[simp] theorem State.pop16_memMap (s : State) : s.pop16.2.memMap = s.memMap :=
  (congrArg State.memMap (State.pop16_onlyBus s) :)
@[simp] theorem State.pop16_ioMap (s : State) : s.pop16.2.ioMap = s.ioMap :=
  (congrArg State.ioMap (State.pop16_onlyBus s) :)
@[simp] theorem State.pop16_sleepBusack (s : State) : s.pop16.2.sleepBusack = s.sleepBusack :=
  (congrArg State.sleepBusack (State.pop16_onlyBus s) :)
@[simp] theorem State.pop16_pins (s : State) : s.pop16.2.pins = s.pins :=
  (congrArg State.pins (State.pop16_onlyBus s) :)
@[simp] theorem State.pop16_inputs (s : State) : s.pop16.2.inputs = s.inputs :=
  (congrArg State.inputs (State.pop16_onlyBus s) :)

/-! Field by field: refreshCycle. -/

@[simp] theorem State.refreshCycle_a (s : State) : s.refreshCycle.a = s.a :=
  (congrArg State.a (State.refreshCycle_onlyBus s) :)
@[simp] theorem State.refreshCycle_f (s : State) : s.refreshCycle.f = s.f :=
  (congrArg State.f (State.refreshCycle_onlyBus s) :)
@[simp] theorem State.refreshCycle_b (s : State) : s.refreshCycle.b = s.b :=
  (congrArg State.b (State.refreshCycle_onlyBus s) :)
@[simp] theorem State.refreshCycle_c (s : State) : s.refreshCycle.c = s.c :=
  (congrArg State.c (State.refreshCycle_onlyBus s) :)
@[simp] theorem State.refreshCycle_d (s : State) : s.refreshCycle.d = s.d :=
  (congrArg State.d (State.refreshCycle_onlyBus s) :)
@[simp] theorem State.refreshCycle_e (s : State) : s.refreshCycle.e = s.e :=
  (congrArg State.e (State.refreshCycle_onlyBus s) :)
@[simp] theorem State.refreshCycle_h (s : State) : s.refreshCycle.h = s.h :=
  (congrArg State.h (State.refreshCycle_onlyBus s) :)
@[simp] theorem State.refreshCycle_l (s : State) : s.refreshCycle.l = s.l :=
  (congrArg State.l (State.refreshCycle_onlyBus s) :)
@[simp] theorem State.refreshCycle_aAlt (s : State) : s.refreshCycle.aAlt = s.aAlt :=
  (congrArg State.aAlt (State.refreshCycle_onlyBus s) :)
@[simp] theorem State.refreshCycle_fAlt (s : State) : s.refreshCycle.fAlt = s.fAlt :=
  (congrArg State.fAlt (State.refreshCycle_onlyBus s) :)
@[simp] theorem State.refreshCycle_bAlt (s : State) : s.refreshCycle.bAlt = s.bAlt :=
  (congrArg State.bAlt (State.refreshCycle_onlyBus s) :)
@[simp] theorem State.refreshCycle_cAlt (s : State) : s.refreshCycle.cAlt = s.cAlt :=
  (congrArg State.cAlt (State.refreshCycle_onlyBus s) :)
@[simp] theorem State.refreshCycle_dAlt (s : State) : s.refreshCycle.dAlt = s.dAlt :=
  (congrArg State.dAlt (State.refreshCycle_onlyBus s) :)
@[simp] theorem State.refreshCycle_eAlt (s : State) : s.refreshCycle.eAlt = s.eAlt :=
  (congrArg State.eAlt (State.refreshCycle_onlyBus s) :)
@[simp] theorem State.refreshCycle_hAlt (s : State) : s.refreshCycle.hAlt = s.hAlt :=
  (congrArg State.hAlt (State.refreshCycle_onlyBus s) :)
@[simp] theorem State.refreshCycle_lAlt (s : State) : s.refreshCycle.lAlt = s.lAlt :=
  (congrArg State.lAlt (State.refreshCycle_onlyBus s) :)
@[simp] theorem State.refreshCycle_ix (s : State) : s.refreshCycle.ix = s.ix :=
  (congrArg State.ix (State.refreshCycle_onlyBus s) :)
@[simp] theorem State.refreshCycle_iy (s : State) : s.refreshCycle.iy = s.iy :=
  (congrArg State.iy (State.refreshCycle_onlyBus s) :)
@[simp] theorem State.refreshCycle_sp (s : State) : s.refreshCycle.sp = s.sp :=
  (congrArg State.sp (State.refreshCycle_onlyBus s) :)
@[simp] theorem State.refreshCycle_pc (s : State) : s.refreshCycle.pc = s.pc :=
  (congrArg State.pc (State.refreshCycle_onlyBus s) :)
@[simp] theorem State.refreshCycle_i (s : State) : s.refreshCycle.i = s.i :=
  (congrArg State.i (State.refreshCycle_onlyBus s) :)
@[simp] theorem State.refreshCycle_r (s : State) : s.refreshCycle.r = inc7 s.r :=
  (congrArg State.r (State.refreshCycle_onlyBus s) :)
@[simp] theorem State.refreshCycle_iff1 (s : State) : s.refreshCycle.iff1 = s.iff1 :=
  (congrArg State.iff1 (State.refreshCycle_onlyBus s) :)
@[simp] theorem State.refreshCycle_iff2 (s : State) : s.refreshCycle.iff2 = s.iff2 :=
  (congrArg State.iff2 (State.refreshCycle_onlyBus s) :)
@[simp] theorem State.refreshCycle_im (s : State) : s.refreshCycle.im = s.im :=
  (congrArg State.im (State.refreshCycle_onlyBus s) :)
@[simp] theorem State.refreshCycle_halted (s : State) : s.refreshCycle.halted = s.halted :=
  (congrArg State.halted (State.refreshCycle_onlyBus s) :)
@[simp] theorem State.refreshCycle_nmiPending (s : State) : s.refreshCycle.nmiPending = s.nmiPending :=
  (congrArg State.nmiPending (State.refreshCycle_onlyBus s) :)
@[simp] theorem State.refreshCycle_eiShadow (s : State) : s.refreshCycle.eiShadow = s.eiShadow :=
  (congrArg State.eiShadow (State.refreshCycle_onlyBus s) :)
@[simp] theorem State.refreshCycle_busGranted (s : State) : s.refreshCycle.busGranted = s.busGranted :=
  (congrArg State.busGranted (State.refreshCycle_onlyBus s) :)
@[simp] theorem State.refreshCycle_clockState (s : State) : s.refreshCycle.clockState = s.clockState :=
  (congrArg State.clockState (State.refreshCycle_onlyBus s) :)
@[simp] theorem State.refreshCycle_memMap (s : State) : s.refreshCycle.memMap = s.memMap :=
  (congrArg State.memMap (State.refreshCycle_onlyBus s) :)
@[simp] theorem State.refreshCycle_ioMap (s : State) : s.refreshCycle.ioMap = s.ioMap :=
  (congrArg State.ioMap (State.refreshCycle_onlyBus s) :)
@[simp] theorem State.refreshCycle_sleepBusack (s : State) : s.refreshCycle.sleepBusack = s.sleepBusack :=
  (congrArg State.sleepBusack (State.refreshCycle_onlyBus s) :)
@[simp] theorem State.refreshCycle_pins (s : State) : s.refreshCycle.pins = s.pins :=
  (congrArg State.pins (State.refreshCycle_onlyBus s) :)
@[simp] theorem State.refreshCycle_inputs (s : State) : s.refreshCycle.inputs = s.inputs :=
  (congrArg State.inputs (State.refreshCycle_onlyBus s) :)

/-! Field by field: fetchM1. -/

@[simp] theorem State.fetchM1_a (s : State) : s.fetchM1.2.a = s.a :=
  (congrArg State.a (State.fetchM1_onlyBus s) :)
@[simp] theorem State.fetchM1_f (s : State) : s.fetchM1.2.f = s.f :=
  (congrArg State.f (State.fetchM1_onlyBus s) :)
@[simp] theorem State.fetchM1_b (s : State) : s.fetchM1.2.b = s.b :=
  (congrArg State.b (State.fetchM1_onlyBus s) :)
@[simp] theorem State.fetchM1_c (s : State) : s.fetchM1.2.c = s.c :=
  (congrArg State.c (State.fetchM1_onlyBus s) :)
@[simp] theorem State.fetchM1_d (s : State) : s.fetchM1.2.d = s.d :=
  (congrArg State.d (State.fetchM1_onlyBus s) :)
@[simp] theorem State.fetchM1_e (s : State) : s.fetchM1.2.e = s.e :=
  (congrArg State.e (State.fetchM1_onlyBus s) :)
@[simp] theorem State.fetchM1_h (s : State) : s.fetchM1.2.h = s.h :=
  (congrArg State.h (State.fetchM1_onlyBus s) :)
@[simp] theorem State.fetchM1_l (s : State) : s.fetchM1.2.l = s.l :=
  (congrArg State.l (State.fetchM1_onlyBus s) :)
@[simp] theorem State.fetchM1_aAlt (s : State) : s.fetchM1.2.aAlt = s.aAlt :=
  (congrArg State.aAlt (State.fetchM1_onlyBus s) :)
@[simp] theorem State.fetchM1_fAlt (s : State) : s.fetchM1.2.fAlt = s.fAlt :=
  (congrArg State.fAlt (State.fetchM1_onlyBus s) :)
@[simp] theorem State.fetchM1_bAlt (s : State) : s.fetchM1.2.bAlt = s.bAlt :=
  (congrArg State.bAlt (State.fetchM1_onlyBus s) :)
@[simp] theorem State.fetchM1_cAlt (s : State) : s.fetchM1.2.cAlt = s.cAlt :=
  (congrArg State.cAlt (State.fetchM1_onlyBus s) :)
@[simp] theorem State.fetchM1_dAlt (s : State) : s.fetchM1.2.dAlt = s.dAlt :=
  (congrArg State.dAlt (State.fetchM1_onlyBus s) :)
@[simp] theorem State.fetchM1_eAlt (s : State) : s.fetchM1.2.eAlt = s.eAlt :=
  (congrArg State.eAlt (State.fetchM1_onlyBus s) :)
@[simp] theorem State.fetchM1_hAlt (s : State) : s.fetchM1.2.hAlt = s.hAlt :=
  (congrArg State.hAlt (State.fetchM1_onlyBus s) :)
@[simp] theorem State.fetchM1_lAlt (s : State) : s.fetchM1.2.lAlt = s.lAlt :=
  (congrArg State.lAlt (State.fetchM1_onlyBus s) :)
@[simp] theorem State.fetchM1_ix (s : State) : s.fetchM1.2.ix = s.ix :=
  (congrArg State.ix (State.fetchM1_onlyBus s) :)
@[simp] theorem State.fetchM1_iy (s : State) : s.fetchM1.2.iy = s.iy :=
  (congrArg State.iy (State.fetchM1_onlyBus s) :)
@[simp] theorem State.fetchM1_sp (s : State) : s.fetchM1.2.sp = s.sp :=
  (congrArg State.sp (State.fetchM1_onlyBus s) :)
@[simp] theorem State.fetchM1_pc (s : State) : s.fetchM1.2.pc = s.pc + 1 :=
  (congrArg State.pc (State.fetchM1_onlyBus s) :)
@[simp] theorem State.fetchM1_i (s : State) : s.fetchM1.2.i = s.i :=
  (congrArg State.i (State.fetchM1_onlyBus s) :)
@[simp] theorem State.fetchM1_r (s : State) : s.fetchM1.2.r = inc7 s.r :=
  (congrArg State.r (State.fetchM1_onlyBus s) :)
@[simp] theorem State.fetchM1_iff1 (s : State) : s.fetchM1.2.iff1 = s.iff1 :=
  (congrArg State.iff1 (State.fetchM1_onlyBus s) :)
@[simp] theorem State.fetchM1_iff2 (s : State) : s.fetchM1.2.iff2 = s.iff2 :=
  (congrArg State.iff2 (State.fetchM1_onlyBus s) :)
@[simp] theorem State.fetchM1_im (s : State) : s.fetchM1.2.im = s.im :=
  (congrArg State.im (State.fetchM1_onlyBus s) :)
@[simp] theorem State.fetchM1_halted (s : State) : s.fetchM1.2.halted = s.halted :=
  (congrArg State.halted (State.fetchM1_onlyBus s) :)
@[simp] theorem State.fetchM1_nmiPending (s : State) : s.fetchM1.2.nmiPending = s.nmiPending :=
  (congrArg State.nmiPending (State.fetchM1_onlyBus s) :)
@[simp] theorem State.fetchM1_eiShadow (s : State) : s.fetchM1.2.eiShadow = s.eiShadow :=
  (congrArg State.eiShadow (State.fetchM1_onlyBus s) :)
@[simp] theorem State.fetchM1_busGranted (s : State) : s.fetchM1.2.busGranted = s.busGranted :=
  (congrArg State.busGranted (State.fetchM1_onlyBus s) :)
@[simp] theorem State.fetchM1_clockState (s : State) : s.fetchM1.2.clockState = s.clockState :=
  (congrArg State.clockState (State.fetchM1_onlyBus s) :)
@[simp] theorem State.fetchM1_memMap (s : State) : s.fetchM1.2.memMap = s.memMap :=
  (congrArg State.memMap (State.fetchM1_onlyBus s) :)
@[simp] theorem State.fetchM1_ioMap (s : State) : s.fetchM1.2.ioMap = s.ioMap :=
  (congrArg State.ioMap (State.fetchM1_onlyBus s) :)
@[simp] theorem State.fetchM1_sleepBusack (s : State) : s.fetchM1.2.sleepBusack = s.sleepBusack :=
  (congrArg State.sleepBusack (State.fetchM1_onlyBus s) :)
@[simp] theorem State.fetchM1_pins (s : State) : s.fetchM1.2.pins = s.pins :=
  (congrArg State.pins (State.fetchM1_onlyBus s) :)
@[simp] theorem State.fetchM1_inputs (s : State) : s.fetchM1.2.inputs = s.inputs :=
  (congrArg State.inputs (State.fetchM1_onlyBus s) :)

/-! Field by field: fetchOperand. -/

@[simp] theorem State.fetchOperand_a (s : State) : s.fetchOperand.2.a = s.a :=
  (congrArg State.a (State.fetchOperand_onlyBus s) :)
@[simp] theorem State.fetchOperand_f (s : State) : s.fetchOperand.2.f = s.f :=
  (congrArg State.f (State.fetchOperand_onlyBus s) :)
@[simp] theorem State.fetchOperand_b (s : State) : s.fetchOperand.2.b = s.b :=
  (congrArg State.b (State.fetchOperand_onlyBus s) :)
@[simp] theorem State.fetchOperand_c (s : State) : s.fetchOperand.2.c = s.c :=
  (congrArg State.c (State.fetchOperand_onlyBus s) :)
@[simp] theorem State.fetchOperand_d (s : State) : s.fetchOperand.2.d = s.d :=
  (congrArg State.d (State.fetchOperand_onlyBus s) :)
@[simp] theorem State.fetchOperand_e (s : State) : s.fetchOperand.2.e = s.e :=
  (congrArg State.e (State.fetchOperand_onlyBus s) :)
@[simp] theorem State.fetchOperand_h (s : State) : s.fetchOperand.2.h = s.h :=
  (congrArg State.h (State.fetchOperand_onlyBus s) :)
@[simp] theorem State.fetchOperand_l (s : State) : s.fetchOperand.2.l = s.l :=
  (congrArg State.l (State.fetchOperand_onlyBus s) :)
@[simp] theorem State.fetchOperand_aAlt (s : State) : s.fetchOperand.2.aAlt = s.aAlt :=
  (congrArg State.aAlt (State.fetchOperand_onlyBus s) :)
@[simp] theorem State.fetchOperand_fAlt (s : State) : s.fetchOperand.2.fAlt = s.fAlt :=
  (congrArg State.fAlt (State.fetchOperand_onlyBus s) :)
@[simp] theorem State.fetchOperand_bAlt (s : State) : s.fetchOperand.2.bAlt = s.bAlt :=
  (congrArg State.bAlt (State.fetchOperand_onlyBus s) :)
@[simp] theorem State.fetchOperand_cAlt (s : State) : s.fetchOperand.2.cAlt = s.cAlt :=
  (congrArg State.cAlt (State.fetchOperand_onlyBus s) :)
@[simp] theorem State.fetchOperand_dAlt (s : State) : s.fetchOperand.2.dAlt = s.dAlt :=
  (congrArg State.dAlt (State.fetchOperand_onlyBus s) :)
@[simp] theorem State.fetchOperand_eAlt (s : State) : s.fetchOperand.2.eAlt = s.eAlt :=
  (congrArg State.eAlt (State.fetchOperand_onlyBus s) :)
@[simp] theorem State.fetchOperand_hAlt (s : State) : s.fetchOperand.2.hAlt = s.hAlt :=
  (congrArg State.hAlt (State.fetchOperand_onlyBus s) :)
@[simp] theorem State.fetchOperand_lAlt (s : State) : s.fetchOperand.2.lAlt = s.lAlt :=
  (congrArg State.lAlt (State.fetchOperand_onlyBus s) :)
@[simp] theorem State.fetchOperand_ix (s : State) : s.fetchOperand.2.ix = s.ix :=
  (congrArg State.ix (State.fetchOperand_onlyBus s) :)
@[simp] theorem State.fetchOperand_iy (s : State) : s.fetchOperand.2.iy = s.iy :=
  (congrArg State.iy (State.fetchOperand_onlyBus s) :)
@[simp] theorem State.fetchOperand_sp (s : State) : s.fetchOperand.2.sp = s.sp :=
  (congrArg State.sp (State.fetchOperand_onlyBus s) :)
@[simp] theorem State.fetchOperand_pc (s : State) : s.fetchOperand.2.pc = s.pc + 1 :=
  (congrArg State.pc (State.fetchOperand_onlyBus s) :)
@[simp] theorem State.fetchOperand_i (s : State) : s.fetchOperand.2.i = s.i :=
  (congrArg State.i (State.fetchOperand_onlyBus s) :)
@[simp] theorem State.fetchOperand_r (s : State) : s.fetchOperand.2.r = s.r :=
  (congrArg State.r (State.fetchOperand_onlyBus s) :)
@[simp] theorem State.fetchOperand_iff1 (s : State) : s.fetchOperand.2.iff1 = s.iff1 :=
  (congrArg State.iff1 (State.fetchOperand_onlyBus s) :)
@[simp] theorem State.fetchOperand_iff2 (s : State) : s.fetchOperand.2.iff2 = s.iff2 :=
  (congrArg State.iff2 (State.fetchOperand_onlyBus s) :)
@[simp] theorem State.fetchOperand_im (s : State) : s.fetchOperand.2.im = s.im :=
  (congrArg State.im (State.fetchOperand_onlyBus s) :)
@[simp] theorem State.fetchOperand_halted (s : State) : s.fetchOperand.2.halted = s.halted :=
  (congrArg State.halted (State.fetchOperand_onlyBus s) :)
@[simp] theorem State.fetchOperand_nmiPending (s : State) : s.fetchOperand.2.nmiPending = s.nmiPending :=
  (congrArg State.nmiPending (State.fetchOperand_onlyBus s) :)
@[simp] theorem State.fetchOperand_eiShadow (s : State) : s.fetchOperand.2.eiShadow = s.eiShadow :=
  (congrArg State.eiShadow (State.fetchOperand_onlyBus s) :)
@[simp] theorem State.fetchOperand_busGranted (s : State) : s.fetchOperand.2.busGranted = s.busGranted :=
  (congrArg State.busGranted (State.fetchOperand_onlyBus s) :)
@[simp] theorem State.fetchOperand_clockState (s : State) : s.fetchOperand.2.clockState = s.clockState :=
  (congrArg State.clockState (State.fetchOperand_onlyBus s) :)
@[simp] theorem State.fetchOperand_memMap (s : State) : s.fetchOperand.2.memMap = s.memMap :=
  (congrArg State.memMap (State.fetchOperand_onlyBus s) :)
@[simp] theorem State.fetchOperand_ioMap (s : State) : s.fetchOperand.2.ioMap = s.ioMap :=
  (congrArg State.ioMap (State.fetchOperand_onlyBus s) :)
@[simp] theorem State.fetchOperand_sleepBusack (s : State) : s.fetchOperand.2.sleepBusack = s.sleepBusack :=
  (congrArg State.sleepBusack (State.fetchOperand_onlyBus s) :)
@[simp] theorem State.fetchOperand_pins (s : State) : s.fetchOperand.2.pins = s.pins :=
  (congrArg State.pins (State.fetchOperand_onlyBus s) :)
@[simp] theorem State.fetchOperand_inputs (s : State) : s.fetchOperand.2.inputs = s.inputs :=
  (congrArg State.inputs (State.fetchOperand_onlyBus s) :)

/-! With no grant listed: what each operation does to memory, the grants and the trace. -/

@[simp] theorem State.storeByte_ram (s : State) (a : Word) (v : Byte) (h : s.kindAt a = .ram) :
    s.storeByte a v = { s with mem := s.mem.store a.toNat v } := by
  unfold State.storeByte; rw [h]

@[simp] theorem State.storeByte_notRam (s : State) (a : Word) (v : Byte) (h : s.kindAt a ≠ .ram) :
    s.storeByte a v = s := by
  unfold State.storeByte; split
  · contradiction
  all_goals rfl

/-- What a store at one address does to the byte at any other: nothing. -/
theorem State.storeByte_byteAt_other (s : State) (a : Word) (v : Byte) (x : Nat) (h : x ≠ a.toNat) :
    (s.storeByte a v).mem.byteAt x = s.mem.byteAt x := by
  by_cases hk : s.kindAt a = .ram
  · rw [State.storeByte_ram s a v hk]; exact Memory.byteAt_store_other _ _ h
  · rw [State.storeByte_notRam s a v hk]

theorem State.readByte_fst (s : State) (a : Word) : (s.readByte a).1 = (s.dataAt a).1 := rfl

theorem State.readByte_alone (s : State) (a : Word) (h : s.grants = []) :
    (s.readByte a).2 = (s.dataAt a).2.emit (.memRead a (s.dataAt a).1) := by
  unfold State.readByte
  exact State.endCycle_alone _ (by simp [h])

theorem State.writeByte_alone (s : State) (a : Word) (v : Byte) (h : s.grants = []) :
    s.writeByte a v = (s.storeByte a v).emit (.memWrite a v) := by
  unfold State.writeByte
  exact State.endCycle_alone _ (by simp [h])

theorem State.ioRead_alone (s : State) (p : Word) (h : s.grants = []) :
    (s.ioRead p).2 = (s.portIn p).2.emit (.input p (s.portIn p).1) := by
  unfold State.ioRead
  exact State.endCycle_alone _ (by rw [State.portIn_frame]; exact h)

theorem State.ioWrite_alone (s : State) (p : Word) (v : Byte) (h : s.grants = []) :
    s.ioWrite p v = s.emit (.output p v) := by
  unfold State.ioWrite
  exact State.endCycle_alone _ (by simp [h])

theorem State.refreshCycle_alone (s : State) (h : s.grants = []) :
    s.refreshCycle = { s.emit (.refresh (joinBytes s.i s.r)) with r := inc7 s.r } := by
  unfold State.refreshCycle
  exact State.endCycle_alone _ (by simp [h])

theorem State.readByte_grants_alone (s : State) (a : Word) (h : s.grants = []) : (s.readByte a).2.grants = [] := by
  rw [State.readByte_alone s a h]; simp [h]

theorem State.writeByte_grants_alone (s : State) (a : Word) (v : Byte) (h : s.grants = []) :
    (s.writeByte a v).grants = [] := by
  rw [State.writeByte_alone s a v h]; simp [h]

theorem State.readByte_mem_alone (s : State) (a : Word) (h : s.grants = []) : (s.readByte a).2.mem = s.mem := by
  rw [State.readByte_alone s a h]; simp

theorem State.writeByte_mem_alone (s : State) (a : Word) (v : Byte) (h : s.grants = []) :
    (s.writeByte a v).mem = (s.storeByte a v).mem := by
  rw [State.writeByte_alone s a v h]; simp

/-- A write leaves every other byte of memory. -/
theorem State.writeByte_byteAt_other (s : State) (a : Word) (v : Byte) (x : Nat) (h : s.grants = [])
    (hx : x ≠ a.toNat) : (s.writeByte a v).mem.byteAt x = s.mem.byteAt x := by
  rw [State.writeByte_mem_alone s a v h]; exact State.storeByte_byteAt_other s a v x hx

/-- A write to RAM is read back. -/
theorem State.writeByte_byteAt_same (s : State) (a : Word) (v : Byte) (h : s.grants = []) (hk : s.kindAt a = .ram) :
    (s.writeByte a v).mem.byteAt a.toNat = some v := by
  rw [State.writeByte_mem_alone s a v h, State.storeByte_ram s a v hk]; exact Memory.byteAt_store_same _ _ _

/-! Every operation keeps the canonical form of memory, whatever another master writes in between. -/

theorem State.storeByte_wf (s : State) (a : Word) (v : Byte) (h : s.mem.wf = true) : (s.storeByte a v).mem.wf = true := by
  by_cases hk : s.kindAt a = .ram
  · rw [State.storeByte_ram s a v hk]; exact Memory.wf_store _ _ _ h
  · rw [State.storeByte_notRam s a v hk]; exact h

theorem State.storeAll_wf (ws : List (Word × Byte)) (s : State) (h : s.mem.wf = true) :
    (s.storeAll ws).mem.wf = true := by
  induction ws generalizing s with
  | nil => exact h
  | cons x xs ih => exact ih _ (State.storeByte_wf s x.1 x.2 h)

theorem State.endCycle_wf (s : State) (h : s.mem.wf = true) : s.endCycle.mem.wf = true := by
  unfold State.endCycle
  split
  · exact h
  · exact h
  · exact State.storeAll_wf _ _ h

theorem State.readByte_wf (s : State) (a : Word) (h : s.mem.wf = true) : (s.readByte a).2.mem.wf = true :=
  State.endCycle_wf _ (by simpa using h)

theorem State.writeByte_wf (s : State) (a : Word) (v : Byte) (h : s.mem.wf = true) :
    (s.writeByte a v).mem.wf = true :=
  State.endCycle_wf _ (by simpa using State.storeByte_wf s a v h)

theorem State.readWord_wf (s : State) (a : Word) (h : s.mem.wf = true) : (s.readWord a).2.mem.wf = true :=
  State.readByte_wf _ _ (State.readByte_wf s a h)

theorem State.writeWord_wf (s : State) (a v : Word) (h : s.mem.wf = true) : (s.writeWord a v).mem.wf = true :=
  State.writeByte_wf _ _ _ (State.writeByte_wf s a _ h)

theorem State.modifyByte_wf (s : State) (a : Word) (g : Byte → Byte) (h : s.mem.wf = true) :
    (s.modifyByte a g).mem.wf = true :=
  State.writeByte_wf _ _ _ (State.readByte_wf s a h)

theorem State.push16_wf (s : State) (v : Word) (h : s.mem.wf = true) : (s.push16 v).mem.wf = true :=
  State.writeByte_wf _ _ _ (State.writeByte_wf _ _ _ h)

theorem State.pop16_wf (s : State) (h : s.mem.wf = true) : s.pop16.2.mem.wf = true :=
  State.readByte_wf _ _ (State.readByte_wf s s.sp h)

theorem State.ioRead_wf (s : State) (p : Word) (h : s.mem.wf = true) : (s.ioRead p).2.mem.wf = true :=
  State.endCycle_wf _ (by rw [State.portIn_frame]; exact h)

theorem State.ioWrite_wf (s : State) (p : Word) (v : Byte) (h : s.mem.wf = true) : (s.ioWrite p v).mem.wf = true :=
  State.endCycle_wf _ (by simpa using h)

theorem State.refreshCycle_wf (s : State) (h : s.mem.wf = true) : s.refreshCycle.mem.wf = true :=
  State.endCycle_wf _ (by simpa using h)

theorem State.fetchM1_wf (s : State) (h : s.mem.wf = true) : s.fetchM1.2.mem.wf = true :=
  State.refreshCycle_wf _ (by simpa using h)

theorem State.fetchOperand_wf (s : State) (h : s.mem.wf = true) : s.fetchOperand.2.mem.wf = true :=
  State.readByte_wf _ _ h

/-- The memory right after reset has the canonical form. -/
theorem State.reset_wf : State.reset.mem.wf = true := rfl


end Sys2Proof.Machine
end

