-- ==== Sys2Proof/Laws/Families.lean ====
section
/-! SUPPORT. For each operation the families share, and for the taking of an interrupt, one lemma that says what it
does where no other master takes the bus between its cycles (s.grants = []): the state after it, field by field, with
only the fields it can change left as they come. Then the canonical form of memory through each of them. -/

namespace Sys2Proof.Machine

/-! Reads and writes. -/

/-- A memory read takes a bus cycle, and may take a byte of the outside or a free value; nothing else. -/
theorem State.readByte_after (s : State) (x : Word) (h : s.grants = []) :
    (s.readByte x).2 = { s with dataIn := (s.dataAt x).2.dataIn, draws := (s.dataAt x).2.draws,
                                trace := .memRead x (s.dataAt x).1 :: s.trace } := by
  rw [State.readByte_alone s x h, State.dataAt_frame]; rfl

/-- A read of a byte that memory holds. -/
theorem State.readByte_known (s : State) (x : Word) (v : Byte) (h : s.grants = [])
    (hk : s.kindAt x = .ram ∨ s.kindAt x = .rom) (hv : s.mem.byteAt x.toNat = some v) :
    s.readByte x = (v, { s with trace := .memRead x v :: s.trace }) := by
  have e := State.readByte_after s x h
  rw [State.dataAt_known s x v hk hv] at e
  exact Prod.ext (by rw [State.readByte_fst, State.dataAt_known s x v hk hv]) e

/-- A memory write changes the byte, in RAM, and takes a bus cycle. -/
theorem State.writeByte_after (s : State) (x : Word) (v : Byte) (h : s.grants = []) :
    s.writeByte x v = { s with mem := (s.storeByte x v).mem, trace := .memWrite x v :: s.trace } := by
  rw [State.writeByte_alone s x v h, State.storeByte_frame]; rfl

/-- What stands at an address is no affair of a store. -/
theorem State.storeByte_kindAt (s : State) (a b : Word) (v : Byte) : (s.storeByte a v).kindAt b = s.kindAt b := by
  unfold State.kindAt; simp

/-- Two stores see the memory and the map alone. -/
theorem State.storeByte_mem_congr {s t : State} (hm : s.mem = t.mem) (hk : s.memMap = t.memMap) (a : Word) (v : Byte) :
    (s.storeByte a v).mem = (t.storeByte a v).mem := by
  unfold State.storeByte State.kindAt
  rw [hk]
  split <;> simp [hm]

theorem State.readWord_after (s : State) (x : Word) (h : s.grants = []) :
    (s.readWord x).2 = { s with dataIn := (s.readWord x).2.dataIn, draws := (s.readWord x).2.draws,
                                trace := (s.readWord x).2.trace } := by
  have h1 : (s.readByte x).2.grants = [] := State.readByte_grants_alone s x h
  show ((s.readByte x).2.readByte (x + 1)).2 = _
  unfold State.readWord
  dsimp only
  rw [State.readByte_after _ _ h1, State.readByte_after _ _ h]

theorem State.writeWord_after (s : State) (x v : Word) (h : s.grants = []) :
    s.writeWord x v = { s with
      mem := ((s.storeByte x (loByte v)).storeByte (x + 1) (hiByte v)).mem,
      trace := .memWrite (x + 1) (hiByte v) :: .memWrite x (loByte v) :: s.trace } := by
  have h1 : (s.writeByte x (loByte v)).grants = [] := State.writeByte_grants_alone s x _ h
  unfold State.writeWord
  rw [State.writeByte_after _ _ _ h1, State.writeByte_after _ _ _ h]
  unfold State.storeByte State.kindAt
  simp only
  split <;> split <;> simp_all

/-- The read-modify-write of a memory operand. -/
theorem State.modifyByte_after (s : State) (x : Word) (g : Byte → Byte) (h : s.grants = []) :
    s.modifyByte x g = { s with
      mem := (s.storeByte x (g (s.dataAt x).1)).mem, dataIn := (s.dataAt x).2.dataIn, draws := (s.dataAt x).2.draws,
      trace := .memWrite x (g (s.dataAt x).1) :: .memRead x (s.dataAt x).1 :: s.trace } := by
  unfold State.modifyByte
  have h1 : (s.readByte x).2.grants = [] := State.readByte_grants_alone s _ h
  rw [State.writeByte_after _ _ _ h1, State.readByte_fst, State.readByte_after s x h]
  unfold State.storeByte State.kindAt
  simp only
  split <;> rfl

/-! The stack. -/

/-- A push stores the high byte at SP - 1 and then the low byte at SP - 2 (spec/20_memory.md R75). -/
theorem State.push16_after (s : State) (v : Word) (h : s.grants = []) :
    s.push16 v = { s with
      sp := s.sp - 2, mem := ((s.storeByte (s.sp - 1) (hiByte v)).storeByte (s.sp - 2) (loByte v)).mem,
      trace := .memWrite (s.sp - 2) (loByte v) :: .memWrite (s.sp - 1) (hiByte v) :: s.trace } := by
  unfold State.push16
  dsimp only
  rw [State.writeByte_after { s with sp := s.sp - 1 } _ _ h]
  rw [State.writeByte_after _ _ _ (by exact h)]
  unfold State.storeByte State.kindAt
  simp only
  split <;> split <;> simp_all

theorem State.pop16_after (s : State) (h : s.grants = []) :
    s.pop16.2 = { s with sp := s.sp + 2, dataIn := s.pop16.2.dataIn, draws := s.pop16.2.draws,
                         trace := s.pop16.2.trace } := by
  unfold State.pop16
  dsimp only
  have h1 : ({ (s.readByte s.sp).2 with sp := s.sp + 1 } : State).grants = [] := State.readByte_grants_alone s s.sp h
  rw [State.readByte_after _ _ h1, State.readByte_after s _ h]

/-- A pop of two bytes that memory holds (spec/20_memory.md R76). -/
theorem State.pop16_known (s : State) (lo hi : Byte) (h : s.grants = [])
    (k0 : s.kindAt s.sp = .ram ∨ s.kindAt s.sp = .rom) (v0 : s.mem.byteAt s.sp.toNat = some lo)
    (k1 : s.kindAt (s.sp + 1) = .ram ∨ s.kindAt (s.sp + 1) = .rom) (v1 : s.mem.byteAt (s.sp + 1).toNat = some hi) :
    s.pop16 = (joinBytes hi lo, { s with
      sp := s.sp + 2, trace := .memRead (s.sp + 1) hi :: .memRead s.sp lo :: s.trace }) := by
  have e1 := State.readByte_known s s.sp lo h k0 v0
  have e2 := State.readByte_known { s with sp := s.sp + 1, trace := .memRead s.sp lo :: s.trace } (s.sp + 1) hi h k1 v1
  unfold State.pop16
  dsimp only
  rw [e1]
  dsimp only
  rw [e2]

/-- The return common to RET, RETI and RETN. -/
theorem State.returnPop_after (s : State) (h : s.grants = []) :
    s.returnPop = { s with pc := s.pop16.1, sp := s.sp + 2, dataIn := s.pop16.2.dataIn, draws := s.pop16.2.draws,
                           trace := s.pop16.2.trace } := by
  unfold State.returnPop; rw [State.pop16_after s h]

/-- The exchange of a word with the top of the stack. -/
theorem State.exchangeTop_after (s : State) (v : Word) (h : s.grants = []) :
    (s.exchangeTop v).2 = { s with
      mem := ((s.storeByte (s.sp + 1) (hiByte v)).storeByte s.sp (loByte v)).mem,
      dataIn := (s.exchangeTop v).2.dataIn, draws := (s.exchangeTop v).2.draws,
      trace := (s.exchangeTop v).2.trace } := by
  have h1 : (s.readWord s.sp).2.grants = [] := by rw [State.readWord_after s s.sp h]; exact h
  have h2 : ((s.readWord s.sp).2.writeByte (s.sp + 1) (hiByte v)).grants = [] := State.writeByte_grants_alone _ _ _ h1
  unfold State.exchangeTop
  dsimp only
  rw [State.writeByte_after _ _ _ h2, State.writeByte_after _ _ _ h1, State.readWord_after s s.sp h]
  unfold State.storeByte State.kindAt
  simp only
  split <;> split <;> simp_all

/-! Block transfer and search. -/

theorem State.blockTransfer_after (s : State) (step : Word) (h : s.grants = []) :
    s.blockTransfer step = { s with
      h := hiByte (s.hl + step), l := loByte (s.hl + step), d := hiByte (s.de + step), e := loByte (s.de + step),
      b := hiByte (s.bc - 1), c := loByte (s.bc - 1), f := (s.blockTransfer step).f,
      mem := (s.storeByte s.de (s.dataAt s.hl).1).mem, dataIn := (s.blockTransfer step).dataIn,
      draws := (s.blockTransfer step).draws, trace := (s.blockTransfer step).trace } := by
  unfold State.blockTransfer
  dsimp only
  have h1 : (s.readByte s.hl).2.grants = [] := State.readByte_grants_alone s _ h
  rw [State.writeByte_after _ _ _ h1, State.readByte_fst, State.readByte_after s _ h]
  unfold State.storeByte State.kindAt State.setFlags
  simp only
  split <;> rfl

theorem State.blockSearch_after (s : State) (step : Word) (h : s.grants = []) :
    s.blockSearch step = { s with
      h := hiByte (s.hl + step), l := loByte (s.hl + step), b := hiByte (s.bc - 1), c := loByte (s.bc - 1),
      f := (s.blockSearch step).f, dataIn := (s.blockSearch step).dataIn, draws := (s.blockSearch step).draws,
      trace := (s.blockSearch step).trace } := by
  unfold State.blockSearch
  dsimp only
  rw [State.readByte_after s _ h]
  rfl

/-- The repetition of a block instruction changes PC alone. -/
theorem State.repeatUnless_after (s : State) (done : Bool) :
    s.repeatUnless done = { s with pc := if done then s.pc else s.pc - 2 } := by
  unfold State.repeatUnless
  cases done <;> rfl

/-! Input and output. -/

theorem State.ioRead_after (s : State) (x : Word) (h : s.grants = []) :
    (s.ioRead x).2 = { s with dataIn := (s.portIn x).2.dataIn, draws := (s.portIn x).2.draws,
                              trace := .input x (s.portIn x).1 :: s.trace } := by
  rw [State.ioRead_alone s x h, State.portIn_frame]; rfl

theorem State.blockInput_after (s : State) (step : Word) (h : s.grants = []) :
    s.blockInput step = { s with
      b := s.b - 1, h := hiByte (s.hl + step), l := loByte (s.hl + step), f := (s.blockInput step).f,
      mem := (s.storeByte s.hl (s.portIn s.bc).1).mem, dataIn := (s.blockInput step).dataIn,
      draws := (s.blockInput step).draws,
      trace := .memWrite s.hl (s.portIn s.bc).1 :: .input s.bc (s.portIn s.bc).1 :: s.trace } := by
  unfold State.blockInput
  dsimp only
  have h1 : (s.ioRead s.bc).2.grants = [] := by rw [State.ioRead_after s _ h]; exact h
  rw [State.writeByte_after _ _ _ h1, State.ioRead_after s _ h]
  unfold State.storeByte State.kindAt State.setFlags
  simp only
  split <;> rfl

theorem State.blockOutput_after (s : State) (step : Word) (h : s.grants = []) :
    s.blockOutput step = { s with
      b := s.b - 1, h := hiByte (s.hl + step), l := loByte (s.hl + step), f := (s.blockOutput step).f,
      dataIn := (s.blockOutput step).dataIn, draws := (s.blockOutput step).draws,
      trace := .output (joinBytes (s.b - 1) s.c) (s.dataAt s.hl).1 :: .memRead s.hl (s.dataAt s.hl).1 :: s.trace } := by
  unfold State.blockOutput
  dsimp only
  rw [State.ioWrite_alone]
  · rw [State.readByte_after s _ h]; rfl
  · exact State.readByte_grants_alone s _ h

/-! Fetches. -/

theorem State.refreshCycle_after (s : State) (h : s.grants = []) :
    s.refreshCycle = { s with r := inc7 s.r, trace := .refresh (joinBytes s.i s.r) :: s.trace } := by
  rw [State.refreshCycle_alone s h]; rfl

/-- An opcode fetch of a byte that memory holds. -/
theorem State.fetchM1_known (s : State) (v : Byte) (h : s.grants = [])
    (hk : s.kindAt s.pc = .ram ∨ s.kindAt s.pc = .rom) (hv : s.mem.byteAt s.pc.toNat = some v) :
    s.fetchM1 = (v, { s with pc := s.pc + 1, r := inc7 s.r,
                             trace := .refresh (joinBytes s.i s.r) :: .fetch s.pc v :: s.trace }) := by
  unfold State.fetchM1
  rw [State.dataAt_known s s.pc v hk hv]
  dsimp only
  rw [State.refreshCycle_after _ (by exact h)]
  rfl

/-- An operand fetch of a byte that memory holds. -/
theorem State.fetchOperand_known (s : State) (v : Byte) (h : s.grants = [])
    (hk : s.kindAt s.pc = .ram ∨ s.kindAt s.pc = .rom) (hv : s.mem.byteAt s.pc.toNat = some v) :
    s.fetchOperand = (v, { s with pc := s.pc + 1, trace := .memRead s.pc v :: s.trace }) := by
  unfold State.fetchOperand
  rw [State.readByte_known s s.pc v h hk hv]

/-- The fetch of the next byte, one that memory holds: R advances if it is an opcode byte. -/
theorem State.fetchNext_known (s : State) (got : List Byte) (v : Byte) (h : s.grants = [])
    (hk : s.kindAt s.pc = .ram ∨ s.kindAt s.pc = .rom) (hv : s.mem.byteAt s.pc.toNat = some v) :
    s.fetchNext got = (v, { s with pc := s.pc + 1, r := if nextIsM1 got then inc7 s.r else s.r,
                                   trace := (s.fetchNext got).2.trace }) := by
  unfold State.fetchNext
  cases nextIsM1 got
  · simp only [Bool.false_eq_true, if_false]; rw [State.fetchOperand_known s v h hk hv]
  · simp only [if_true]; rw [State.fetchM1_known s v h hk hv]

/-! Interrupts. -/

/-- The free P/V flag of LD A,I and LD A,R: F and the count of free values alone. -/
theorem State.freePV_after (s : State) (b : Bool) :
    s.freePV b = { s with f := (s.freePV b).f, draws := (s.freePV b).draws } ∧
    (if b then (s.freePV b).f = { s.f with pv := (s.freePV b).f.pv } else (s.freePV b).f = s.f) := by
  unfold State.freePV; cases b <;> exact ⟨rfl, rfl⟩

/-- AcceptNMI (spec/60_exceptions.md R453). -/
theorem State.acceptNMI_after (u : State) (h : u.grants = []) :
    u.acceptNMI = { u with
      nmiPending := false, halted := false, clockState := .running, iff1 := false, r := inc7 u.r, sp := u.sp - 2,
      pc := 0x0066, mem := ((u.storeByte (u.sp - 1) (hiByte u.pc)).storeByte (u.sp - 2) (loByte u.pc)).mem,
      trace := u.acceptNMI.trace } := by
  unfold State.acceptNMI
  dsimp only
  rw [State.refreshCycle_after _ (by exact h), State.push16_after _ _ (by exact h)]
  dsimp only [State.emit, State.unhalt]
  unfold State.storeByte State.kindAt
  simp only
  split <;> split <;> simp_all

/-- The maskable interrupt acknowledge cycle (spec/60_exceptions.md R477). -/
theorem State.ackCycle_after (u : State) (h : u.grants = []) :
    u.ackCycle.2 = { u with r := inc7 u.r, dataIn := u.external.2.dataIn, draws := u.external.2.draws,
                            trace := u.ackCycle.2.trace } := by
  unfold State.ackCycle
  dsimp only
  have h1 : (u.external.2.emit (.intAck u.pc u.external.1)).grants = [] := by rw [State.external_frame]; exact h
  rw [State.refreshCycle_after _ h1, State.external_frame]; rfl

/-- The byte the outside supplies depends on the coming bytes and the count of free values alone. -/
theorem State.external_congr {u v : State} (h1 : u.dataIn = v.dataIn) (h2 : u.draws = v.draws) :
    u.external.1 = v.external.1 := by
  unfold State.external State.draw; rw [h1]; split <;> simp [h2]

/-- Where no interrupt is to be accepted the sampling point does nothing. -/
theorem State.sample_none (s : State) (b : Bool) (hn : s.nmiPending = false)
    (hi : s.pins.intLow = false ∨ s.iff1 = false ∨ s.eiShadow = true) : s.sample b = .next s := by
  unfold State.sample
  rcases hi with hi | hi | hi <;> simp [hn, hi]

/-- A latched NMI is accepted first. -/
theorem State.sample_nmi (s : State) (b : Bool) (hn : s.nmiPending = true) :
    s.sample b = .next (s.freePV b).acceptNMI := by
  simp [State.sample, hn]

/-- INT is accepted at "0", if IFF1 is 1 and no EI has just run. -/
theorem State.sample_int (s : State) (b : Bool) (hn : s.nmiPending = false) (hp : s.pins.intLow = true)
    (hi : s.iff1 = true) (he : s.eiShadow = false) : s.sample b = (s.freePV b).acceptINT := by
  simp [State.sample, hn, hp, hi, he]

/-! The canonical form of memory. -/

theorem State.blockTransfer_wf (s : State) (k : Word) (h : s.mem.wf = true) : (s.blockTransfer k).mem.wf = true :=
  State.writeByte_wf _ _ _ (State.readByte_wf _ _ h)

theorem State.blockSearch_wf (s : State) (k : Word) (h : s.mem.wf = true) : (s.blockSearch k).mem.wf = true :=
  State.readByte_wf _ _ h

theorem State.blockInput_wf (s : State) (k : Word) (h : s.mem.wf = true) : (s.blockInput k).mem.wf = true :=
  State.writeByte_wf _ _ _ (State.ioRead_wf _ _ h)

theorem State.blockOutput_wf (s : State) (k : Word) (h : s.mem.wf = true) : (s.blockOutput k).mem.wf = true :=
  State.ioWrite_wf _ _ _ (State.readByte_wf _ _ h)

theorem State.exchangeTop_wf (s : State) (k : Word) (h : s.mem.wf = true) : (s.exchangeTop k).2.mem.wf = true :=
  State.writeByte_wf _ _ _ (State.writeByte_wf _ _ _ (State.readWord_wf _ _ h))

theorem State.fetchNext_wf (s : State) (got : List Byte) (h : s.mem.wf = true) :
    (s.fetchNext got).2.mem.wf = true := by
  unfold State.fetchNext
  split
  · exact State.fetchM1_wf _ h
  · exact State.fetchOperand_wf _ h

theorem State.acceptNMI_wf (s : State) (h : s.mem.wf = true) : s.acceptNMI.mem.wf = true :=
  State.push16_wf _ _ (State.refreshCycle_wf _ h)

theorem State.ackCycle_wf (s : State) (h : s.mem.wf = true) : s.ackCycle.2.mem.wf = true :=
  State.refreshCycle_wf _ (by simpa using h)

end Sys2Proof.Machine
end

