-- ==== Sys2Proof/Laws/Run.lean ====
section
/-! SUPPORT. The pieces of a step (Machine/Run.lean), each with what it can do said once: the inputs taken, Reset(), the
bus grant with the clock running and stopped, the NOP of the halt state, and a RESET in the middle of a step. -/

namespace Sys2Proof.Machine

/-! The inputs. -/

/-- Taking a step's inputs can change the pins, the NMI latch and the list of coming inputs, nothing else. -/
theorem State.takeInput_frame (s : State) :
    s.takeInput = { s with
      pins := s.takeInput.pins, nmiPending := s.takeInput.nmiPending, inputs := s.takeInput.inputs } := by
  unfold State.takeInput; split <;> rfl

/-- The next input, and what another master then has to write. -/
theorem State.takeInput_cons (s : State) (x : StepInput) (rest : List StepInput) (h : s.inputs = x :: rest) :
    s.takeInput = { s with pins := x.pins, nmiPending := s.nmiPending || x.nmiEdge, inputs := rest } ∧
    s.coming = x.busWrites := by
  unfold State.takeInput State.coming; rw [h]; exact ⟨rfl, rfl⟩

/-! The writes of another master. -/

/-- What a list of stores leaves in memory depends on memory and the map alone. -/
theorem State.storeAll_mem_congr (ws : List (Word × Byte)) {s t : State} (hm : s.mem = t.mem)
    (hk : s.memMap = t.memMap) : (s.storeAll ws).mem = (t.storeAll ws).mem := by
  induction ws generalizing s t with
  | nil => exact hm
  | cons w ws ih => exact ih (State.storeByte_mem_congr hm hk _ _) (by simp [hk])

/-- A list of stores leaves every byte whose address it does not hold. -/
theorem State.storeAll_byteAt_other (ws : List (Word × Byte)) (s : State) (x : Nat) (h : ∀ w ∈ ws, w.1.toNat ≠ x) :
    (s.storeAll ws).mem.byteAt x = s.mem.byteAt x := by
  induction ws generalizing s with
  | nil => rfl
  | cons w ws ih =>
    refine (ih (s.storeByte w.1 w.2) fun y hy => h y (List.mem_cons_of_mem _ hy)).trans ?_
    exact State.storeByte_byteAt_other _ _ _ _ fun e => h w List.mem_cons_self e.symm

/-- A grant with the clock running: bus_granted, memory and the trace, nothing else. -/
theorem State.grantBus_after (s : State) (ws : List (Word × Byte)) :
    s.grantBus ws = { s with
      busGranted := true, mem := (s.storeAll ws).mem, trace := .granted ws :: s.trace } := by
  have h : (State.storeAll (State.emit { s with busGranted := true } (.granted ws)) ws).mem = (s.storeAll ws).mem :=
    State.storeAll_mem_congr ws rfl rfl
  unfold State.grantBus
  rw [State.storeAll_frame, h]
  rfl

/-- BUSREQ while the clock is stopped: the free answer, and memory and the trace exactly where it is a grant. -/
theorem State.sleepGrant_after (s : State) (ws : List (Word × Byte)) :
    s.sleepGrant ws = { s with
      sleepBusack := (s.sleepGrant ws).sleepBusack, draws := (s.sleepGrant ws).draws,
      mem := (s.sleepGrant ws).mem, trace := (s.sleepGrant ws).trace } ∧
    (s.pins.busreqLow = false → s.sleepGrant ws = s) ∧
    (s.pins.busreqLow = true →
      if (s.sleepGrant ws).sleepBusack then
        (s.sleepGrant ws).mem = (s.storeAll ws).mem ∧ (s.sleepGrant ws).trace = .granted ws :: s.trace
      else (s.sleepGrant ws).mem = s.mem ∧ (s.sleepGrant ws).trace = s.trace) := by
  unfold State.sleepGrant
  dsimp only
  cases hb : s.pins.busreqLow
  · exact ⟨rfl, fun _ => rfl, nofun⟩
  cases ha : s.draw.1.getLsbD 0
  · exact ⟨rfl, nofun, fun _ => by simp⟩
  · refine ⟨?_, nofun, fun _ => ?_⟩
    · simp only [if_true]; rw [State.storeAll_frame]; rfl
    · simp only [if_true, State.storeAll_sleepBusack, State.emit_sleepBusack]
      exact ⟨State.storeAll_mem_congr ws rfl rfl, by simp⟩

/-! The halt state. -/

/-- A free count of R moves R[6:0] and draws a free byte, or does nothing. -/
theorem State.freeCount_after (s : State) (stayed : Bool) :
    s.freeCount stayed = { s with r := (s.freeCount stayed).r, draws := (s.freeCount stayed).draws } ∧
    (s.freeCount stayed).r.getLsbD 7 = s.r.getLsbD 7 ∧ (stayed = false → s.freeCount stayed = s) := by
  unfold State.freeCount
  cases stayed
  · exact ⟨rfl, rfl, fun _ => rfl⟩
  · exact ⟨rfl, by simp, nofun⟩

/-- A NOP of the halt state where no other master takes the bus: R and the trace, then the sampling point. -/
theorem State.haltNop_after (s : State) (h : s.grants = []) :
    s.haltNop = State.sample { s with
      r := inc7 s.r, trace := .refresh (joinBytes s.i s.r) :: .haltFetch s.pc (s.ignoredAt s.pc) :: s.trace } false := by
  unfold State.haltNop; rw [State.refreshCycle_after (s.emit (.haltFetch s.pc (s.ignoredAt s.pc))) (by simpa using h)]; rfl

/-! Reset in the middle of a step. -/

/-- What is done and what is left make up the cycles of the step. -/
theorem cutAt_append (n : Nat) (cs : List BusCycle) : (cutAt n cs).1 ++ (cutAt n cs).2 = cs := by
  induction cs generalizing n with
  | nil => cases n <;> rfl
  | cons c cs ih =>
    unfold cutAt
    split
    · cases n
      · rfl
      · exact congrArg (c :: ·) (ih _)
    · exact congrArg (c :: ·) (ih _)

theorem writesOf_append (cs ds : List BusCycle) : writesOf (cs ++ ds) = writesOf cs ++ writesOf ds := by
  induction cs with
  | nil => rfl
  | cons c cs ih => cases c <;> simp [writesOf, ih]

/-- The cut write goes where the step writes. -/
theorem cutWrite_mem (left : List BusCycle) (corrupts : Bool) (v : Byte) (w : Word × Byte)
    (h : w ∈ cutWrite left corrupts v) : ∃ u ∈ writesOf left, u.1 = w.1 := by
  unfold cutWrite at h
  split at h
  · split at h
    · simp only [List.mem_singleton] at h; subst h; exact ⟨_, List.mem_cons_self, rfl⟩
    · cases h
  · cases h

/-- What RESET leaves of a step: the values of Reset(), RESET at "0", the memory and the trace of the cycles done. -/
theorem State.abandon_after (t v : State) (n : Nat) (corrupts : Bool) (done left : List BusCycle)
    (h : cutAt n (cyclesSince t v) = (done, left)) :
    (t.abandon v n corrupts).mem =
      (t.storeAll (writesOf done ++ cutWrite left corrupts (Config.freeByte v.draws))).mem ∧
    (t.abandon v n corrupts).trace = .resetHeld :: (done.reverse ++ t.trace) ∧
    (t.abandon v n corrupts).pins = { t.pins with reset := .asserted } ∧
    (t.abandon v n corrupts).inputs = t.inputs ∧
    (t.abandon v n corrupts).grants = t.grants.drop (done.countP BusCycle.endsCycle) ∧
    (t.abandon v n corrupts).dataIn = t.dataIn.drop (done.countP t.takesData) := by
  unfold State.abandon
  rw [h]
  refine ⟨State.storeAll_mem_congr _ rfl rfl, rfl, rfl, ?_, rfl, rfl⟩
  simp [State.applyReset]

end Sys2Proof.Machine
end

