-- ==== Sys2Proof/Machine/Electrical.lean ====
section
/-! DEFINITION. The pins, the crystals and the electrical tables, transcribed (spec/70_reset_and_hazards.md R541, R542,
R550 to R556): data about the part that no instruction and no step reads ("none of it affects instruction semantics").
Operation outside these limits is outside the model (93_implementation_defined.md U16). -/

namespace Sys2Proof.Machine

/-- One item of the AC table, times in ns: a least and a greatest value (none: no limit, or "DC") for the three
columns: (a) TMPZ84C01F at 2.7 V to 5.5 V and 1 MHz, (b) TMPZ84C01F at 4 MHz, (c) TMPZ84C02AF-6 at 6 MHz. -/
structure AcItem where
  number : Nat
  symbol : String
  aMin : Option Int
  aMax : Option Int
  bMin : Option Int
  bMax : Option Int
  cMin : Option Int
  cMax : Option Int
deriving DecidableEq, Repr

/-- Items 1 to 17 of Table R550. -/
def acItems1 : List AcItem := [
  ⟨1, "TcC", some 1000, none, some 250, none, some 165, none⟩,
  ⟨2, "TwCh", some 400, none, some 110, none, some 65, none⟩,
  ⟨3, "TwCl", some 400, none, some 110, none, some 65, none⟩,
  ⟨4, "TfC", none, some 200, none, some 30, none, some 20⟩,
  ⟨5, "TrC", none, some 200, none, some 30, none, some 20⟩,
  ⟨6, "TdCr(A)", none, some 400, none, some 110, none, some 90⟩,
  ⟨7, "TdA(MREQf)", some 200, none, some 65, none, some 35, none⟩,
  ⟨8, "TdCf(MREQf)", none, some 300, none, some 85, none, some 70⟩,
  ⟨9, "TdCr(MREQr)", none, some 300, none, some 85, none, some 70⟩,
  ⟨10, "TwMREQh", some 400, none, some 110, none, some 65, none⟩,
  ⟨11, "TwMREQl", some 800, none, some 220, none, some 135, none⟩,
  ⟨12, "TdCf(MREQr)", none, some 300, none, some 85, none, some 70⟩,
  ⟨13, "TdCf(RDf)", none, some 350, none, some 95, none, some 80⟩,
  ⟨14, "TdCr(RDr)", none, some 300, none, some 85, none, some 70⟩,
  ⟨15, "TsD(Cr)", some 180, none, some 35, none, some 30, none⟩,
  ⟨16, "ThD(RDr)", some 0, none, some 0, none, some 0, none⟩,
  ⟨17, "TsWAIT(Cf)", some 350, none, some 70, none, some 60, none⟩]

/-- Items 18 to 34 of Table R550. -/
def acItems2 : List AcItem := [
  ⟨18, "ThWAIT(Cf)", some 10, none, some 10, none, some 10, none⟩,
  ⟨19, "TdCr(M1f)", none, some 400, none, some 100, none, some 80⟩,
  ⟨20, "TdCr(M1r)", none, some 400, none, some 100, none, some 80⟩,
  ⟨21, "TdCf(RDr)", none, some 300, none, some 85, none, some 70⟩,
  ⟨22, "TdCr(RDf)", none, some 300, none, some 85, none, some 70⟩,
  ⟨23, "TsD(Cf)", some 250, none, some 50, none, some 40, none⟩,
  ⟨24, "TdA(IORQf)", some 550, none, some 180, none, some 110, none⟩,
  ⟨25, "TdCr(IORQf)", none, some 300, none, some 75, none, some 65⟩,
  ⟨26, "TdCf(IORQr)", none, some 300, none, some 85, none, some 70⟩,
  ⟨27, "TdD(WRf)", some 200, none, some 80, none, some 25, none⟩,
  ⟨28, "TdCf(WRf)", none, some 300, none, some 80, none, some 70⟩,
  ⟨29, "TwWR", some 750, none, some 220, none, some 135, none⟩,
  ⟨30, "TdCf(WRr)", none, some 300, none, some 80, none, some 70⟩,
  ⟨31, "TdD(WRf)", some 10, none, some (-10), none, some (-55), none⟩,
  ⟨32, "TdCr(WRf)", none, some 250, none, some 65, none, some 60⟩,
  ⟨33, "TdWRr(D)", some 200, none, some 60, none, some 30, none⟩,
  ⟨34, "TdCf(HALT)", none, some 1000, none, some 300, none, some 260⟩]

/-- Items 35 to 51 of Table R550. -/
def acItems3 : List AcItem := [
  ⟨35, "TwNMI", some 300, none, some 80, none, some 70, none⟩,
  ⟨36, "TsBUSREQ(Cr)", some 250, none, some 50, none, some 50, none⟩,
  ⟨37, "ThBUSREQ(Cr)", some 10, none, some 10, none, some 10, none⟩,
  ⟨38, "TdCr(BUSACKf)", none, some 400, none, some 100, none, some 90⟩,
  ⟨39, "TdCf(BUSACKr)", none, some 400, none, some 100, none, some 90⟩,
  ⟨40, "TdCr(Dz)", none, some 350, none, some 90, none, some 80⟩,
  ⟨41, "TdCr(CTz)", none, some 300, none, some 80, none, some 70⟩,
  ⟨42, "TdCr(Az)", none, some 350, none, some 90, none, some 80⟩,
  ⟨43, "TdCr (A)", some 200, none, some 80, none, some 35, none⟩,
  ⟨44, "TsRESET(Cr)", some 300, none, some 60, none, some 60, none⟩,
  ⟨45, "ThRESET(Cr)", some 10, none, some 10, none, some 10, none⟩,
  ⟨46, "TsINTf(Cr)", some 300, none, some 80, none, some 70, none⟩,
  ⟨47, "TsINTr (Cr)", some 10, none, some 10, none, some 10, none⟩,
  ⟨48, "TdM1f(IORQf)", some 2000, none, some 565, none, some 365, none⟩,
  ⟨49, "TdCf(IORQf)", none, some 300, none, some 85, none, some 70⟩,
  ⟨50, "TdCr(IORQr)", none, some 300, none, some 85, none, some 70⟩,
  ⟨51, "TdCf(D)", none, some 550, none, some 150, none, some 150⟩]

/-- Items 1 to 51 of Table R550; items 52 to 55, the restart times, are restartHalfClocks (Machine/Timing.lean). -/
def acItems : List AcItem := acItems1 ++ acItems2 ++ acItems3

/-- Supply current of a mode in nA, typical and greatest, at 5 V (Table R553). -/
structure SupplyCurrent where
  typical : Nat
  greatest : Nat
deriving DecidableEq, Repr

/-- RUN, IDLE1, IDLE2 and STOP of the TMPZ84C01F at 4 MHz (Table R553). -/
def supply01F : List SupplyCurrent :=
  [⟨15000000, 20000000⟩, ⟨1000000, 2000000⟩, ⟨3000000, 6000000⟩, ⟨500, 10000⟩]

/-- RUN, IDLE1, IDLE2 and STOP of the TMPZ84C02AF-6 at 6 MHz (Table R553). -/
def supply02AF6 : List SupplyCurrent :=
  [⟨20000000, 24000000⟩, ⟨1500000, 3000000⟩, ⟨4500000, 7500000⟩, ⟨500, 10000⟩]

/-- RUN, IDLE1, IDLE2 and STOP of the TMPZ84C01F at 3 V and 1 MHz (R552). -/
def supply01FLow : List SupplyCurrent :=
  [⟨2500000, 5000000⟩, ⟨500000, 1000000⟩, ⟨1000000, 2000000⟩, ⟨500, 10000⟩]

/-- A voltage in mV, from Vss or from VCC. -/
inductive Voltage where
  | fromVss (mV : Int)
  | fromVcc (mV : Int)
deriving DecidableEq, Repr

/-- One voltage of the DC and maximum-rating rules: a least and a greatest value (none: no limit given). -/
structure VoltageLimit where
  symbol : String
  least : Option Voltage
  greatest : Option Voltage
deriving DecidableEq, Repr

/-- The voltages of the absolute maximum ratings (R551). -/
def absoluteVoltages : List VoltageLimit := [
  ⟨"VCC", some (.fromVss (-500)), some (.fromVss 7000)⟩,
  ⟨"VIN", some (.fromVss (-500)), some (.fromVcc 500)⟩]

/-- The voltages of the DC characteristics of the TMPZ84C01F in low-voltage operation (R552). -/
def dcVoltagesLow : List VoltageLimit := [
  ⟨"VCC", some (.fromVss 2700), some (.fromVss 5500)⟩,
  ⟨"VIHC", some (.fromVcc (-200)), some (.fromVcc 300)⟩,
  ⟨"VIH", some (.fromVcc (-200)), some (.fromVcc 300)⟩,
  ⟨"VILC", some (.fromVss (-300)), some (.fromVss 200)⟩,
  ⟨"VIL", some (.fromVss (-500)), some (.fromVss 200)⟩,
  ⟨"VOH at IOH", some (.fromVcc (-200)), none⟩,
  ⟨"VOL at IOL", none, some (.fromVss 200)⟩]

/-- The voltages of the DC characteristics at 5 V (R554). -/
def dcVoltages : List VoltageLimit := [
  ⟨"VOLC", none, some (.fromVss 400)⟩,
  ⟨"VOHC", some (.fromVcc (-600)), none⟩,
  ⟨"VIL", some (.fromVss (-500)), some (.fromVss 800)⟩,
  ⟨"VIH", some (.fromVss 2200), some (.fromVcc 0)⟩,
  ⟨"VIHR", some (.fromVcc (-600)), some (.fromVcc 0)⟩,
  ⟨"VILR", some (.fromVss (-500)), some (.fromVss 450)⟩,
  ⟨"VOL", none, some (.fromVss 400)⟩,
  ⟨"VOH1", some (.fromVss 2400), none⟩,
  ⟨"VOH2", some (.fromVcc (-800)), none⟩]

/-- A quantity with a least and a greatest value, in the unit its list names. -/
structure Quantity where
  symbol : String
  least : Option Int
  greatest : Option Int
deriving DecidableEq, Repr

/-- Currents in uA: the leak currents, both supplies, and the output currents of low-voltage operation (R552), and the
currents the output voltages are measured at (R554). -/
def currents : List Quantity := [
  ⟨"ILI", some (-10), some 10⟩, ⟨"ILO", some (-10), some 10⟩,
  ⟨"IOH, low voltage", some 100, none⟩, ⟨"IOL, low voltage", some 400, none⟩,
  ⟨"IOL of VOLC", some 2000, some 2000⟩, ⟨"IOH of VOHC", some (-2000), some (-2000)⟩,
  ⟨"IOL of VOL", some 2000, some 2000⟩, ⟨"IOH of VOH1", some (-1600), some (-1600)⟩,
  ⟨"IOH of VOH2", some (-250), some (-250)⟩]

/-- Power in mW and temperatures in degrees C of the absolute maximum ratings (R551). -/
def absoluteOthers : List Quantity := [
  ⟨"PD", none, some 250⟩, ⟨"TSOLDER", none, some 260⟩, ⟨"TSTG", some (-65), some 150⟩, ⟨"TOPR", some (-40), some 85⟩]

/-- Capacitances in pF (R555). -/
def capacitances : List Quantity := [⟨"CCLOCK", none, some 8⟩, ⟨"CIN", none, some 6⟩, ⟨"COUT", none, some 10⟩]

/-- An operating condition of a product: supply in mV, clock in kHz temperature
in degrees C (R556, R540). -/
structure OperatingCondition where
  variant : Variant
  vccLeast : Nat
  vccGreatest : Nat
  clockGreatest : Nat
  temperatureLeast : Int
  temperatureGreatest : Int
deriving DecidableEq, Repr

/-- The operating conditions of both products (R556). -/
def operatingConditions : List OperatingCondition := [
  ⟨.tmpz84c01f, 4500, 5500, 4000, -40, 85⟩,
  ⟨.tmpz84c01f, 2700, 5500, 1000, -40, 85⟩,
  ⟨.tmpz84c02af6, 4500, 5500, 6000, -40, 85⟩]

/-- A row of Table R541: frequencies in kHz, capacitors in pF, resistance in ohm. -/
structure Crystal where
  oscillation : Nat
  cin : Nat
  cout : Nat
  csBelow : Nat
  rsBelow : Nat
  name : String
  variant : Variant
  clock : Nat
deriving DecidableEq, Repr

/-- Table R541. -/
def crystals : List Crystal := [
  ⟨4000, 22, 33, 4, 50, "MR4000-C20", .tmpz84c01f, 4000⟩,
  ⟨8000, 22, 33, 4, 30, "MR8000-C20", .tmpz84c02af6, 4000⟩,
  ⟨12000, 33, 33, 4, 25, "MR12000-C20", .tmpz84c02af6, 6000⟩]

/-- The direction of a pin (Table R542). -/
inductive PinDirection where
  | input
  | output
  | output3
  | both3
  | oscillator
  | supply
deriving DecidableEq, Repr

/-- What makes a pin active (Table R542). -/
inductive PinActive where
  | always
  | low
  | falling
deriving DecidableEq, Repr

/-- A row of Table R542. -/
structure PinRow where
  name : String
  pins : Nat
  direction : PinDirection
  active : PinActive
deriving DecidableEq, Repr

/-- Table R542: 44 pins. -/
def pinTable : List PinRow := [
  ⟨"A0 to A15", 16, .output3, .always⟩, ⟨"MS1, MS2", 2, .input, .always⟩, ⟨"D0 to D7", 8, .both3, .always⟩,
  ⟨"INT", 1, .input, .low⟩, ⟨"NMI", 1, .input, .falling⟩, ⟨"HALT", 1, .output, .low⟩, ⟨"MREQ", 1, .output3, .low⟩,
  ⟨"IORQ", 1, .output3, .low⟩, ⟨"RD", 1, .output3, .low⟩, ⟨"WR", 1, .output3, .low⟩, ⟨"BUSACK", 1, .output, .low⟩,
  ⟨"WAIT", 1, .input, .low⟩, ⟨"BUSREQ", 1, .input, .low⟩, ⟨"RESET", 1, .input, .low⟩, ⟨"M1", 1, .output, .low⟩,
  ⟨"XTAL1, XTAL2", 2, .oscillator, .always⟩, ⟨"CLK", 1, .output, .always⟩, ⟨"Vcc", 2, .supply, .always⟩,
  ⟨"Vss", 1, .supply, .always⟩]

end Sys2Proof.Machine
end

