-- ==== Sys2Proof/Tests/Slice0.lean ====
section
/-! SUPPORT. The model's own tests, each on the spec's own numbers: ill-formed terms refused; the bytes of the spec's
examples, one for every constructor, decoded and encoded; vectors and scenarios of spec/95_test_vectors.md, one step
each; and, for every obligation with hypotheses, a state and operands that meet them together. -/

namespace Sys2Proof.Tests.Slice0

open Sys2Proof.Machine

/-! Well-formedness. -/

theorem test_bit_number_8_refused : WellFormed (.bitBR 8 .b) = false ∧ WellFormed (.bitBAtHl 8) = false ∧
    WellFormed (.bitBAtIx 8 0) = false ∧ WellFormed (.bitBAtIy 8 0) = false ∧ WellFormed (.setBR 8 .b) = false ∧
    WellFormed (.setBAtHl 8) = false ∧ WellFormed (.setBAtIx 8 0) = false ∧ WellFormed (.setBAtIy 8 0) = false ∧
    WellFormed (.resBR 8 .b) = false ∧ WellFormed (.resBAtHl 8) = false ∧ WellFormed (.resBAtIx 8 0) = false ∧
    WellFormed (.resBAtIy 8 0) = false := by decide
theorem test_restart_address_refused : WellFormed (.rstP 0x01) = false ∧ WellFormed (.rstP 0x40) = false ∧
    WellFormed (.rstP 0xC7) = false := by decide
theorem test_bounds_accepted : WellFormed (.bitBR 7 .b) = true ∧ WellFormed (.rstP 0x00) = true ∧
    WellFormed (.rstP 0x38) = true := by decide

/-! Decoding: the bytes are those of the spec's examples (the '- Example' lines of the family files and
spec/95_test_vectors.md), the operands read from them by the fields of spec/opcode_table.json. -/

/-- Each list of bytes decodes to its instruction, which encodes to the same bytes, whatever follows them. -/
def allDecode (l : List (List Byte × Instr)) : Bool :=
  l.all fun p => decode p.1 == .ok (p.2, []) && decode (p.1 ++ [0xED]) == .ok (p.2, [0xED]) && encode p.2 == p.1

/-- The encodings of spec/40_load8.md. -/
theorem test_decode_load8 : allDecode [
  ([0x63], (.ldRR .h .e)), ([0x1E, 0xA5], (.ldRN .e 0xA5)), ([0x4E], (.ldRAtHl .c)),
  ([0xDD, 0x46, 0x19], (.ldRAtIx .b 0x19)), ([0xFD, 0x46, 0x19], (.ldRAtIy .b 0x19)), ([0x70], (.ldAtHlR .b)),
  ([0xDD, 0x71, 0x06], (.ldAtIxR 0x06 .c)), ([0xFD, 0x71, 0x06], (.ldAtIyR 0x06 .c)),
  ([0x36, 0x28], (.ldAtHlN 0x28)), ([0xDD, 0x36, 0x05, 0x5A], (.ldAtIxN 0x05 0x5A)),
  ([0xFD, 0x36, 0x05, 0x5A], (.ldAtIyN 0x05 0x5A)), ([0x0A], .ldAAtBc), ([0x1A], .ldAAtDe),
  ([0x3A, 0x32, 0x88], (.ldAAtNn 0x8832)), ([0x02], .ldAtBcA), ([0x12], .ldAtDeA),
  ([0x32, 0x41, 0x31], (.ldAtNnA 0x3141)), ([0xED, 0x57], .ldAI), ([0xED, 0x5F], .ldAR), ([0xED, 0x47], .ldIA),
  ([0xED, 0x4F], .ldRA)] = true := by decide

/-- The encodings of spec/41_load16.md. -/
theorem test_decode_load16 : allDecode [
  ([0x21, 0x00, 0x50], (.ldDdNn .hl 0x5000)), ([0xDD, 0x21, 0xA2, 0x45], (.ldIxNn 0x45A2)),
  ([0xFD, 0x21, 0xA2, 0x45], (.ldIyNn 0x45A2)), ([0x2A, 0x45, 0x45], (.ldHlAtNn 0x4545)),
  ([0xED, 0x4B, 0x30, 0x21], (.ldDdAtNn .bc 0x2130)), ([0xDD, 0x2A, 0x66, 0x66], (.ldIxAtNn 0x6666)),
  ([0xFD, 0x2A, 0x66, 0x66], (.ldIyAtNn 0x6666)), ([0x22, 0x29, 0xB2], (.ldAtNnHl 0xB229)),
  ([0xED, 0x43, 0x00, 0x20], (.ldAtNnDd 0x2000 .bc)), ([0xDD, 0x22, 0x92, 0x43], (.ldAtNnIx 0x4392)),
  ([0xFD, 0x22, 0x92, 0x43], (.ldAtNnIy 0x4392)), ([0xF9], .ldSpHl), ([0xDD, 0xF9], .ldSpIx),
  ([0xFD, 0xF9], .ldSpIy), ([0xC5], (.pushQq .bc)), ([0xDD, 0xE5], .pushIx), ([0xFD, 0xE5], .pushIy),
  ([0xE1], (.popQq .hl)), ([0xDD, 0xE1], .popIx), ([0xFD, 0xE1], .popIy)] = true := by decide

/-- The encodings of spec/42_exchange_block.md. -/
theorem test_decode_exchange_block : allDecode [
  ([0xEB], .exDeHl), ([0x08], .exAf), ([0xD9], .exx), ([0xE3], .exSpHl), ([0xDD, 0xE3], .exSpIx),
  ([0xFD, 0xE3], .exSpIy), ([0xED, 0xA0], .ldi), ([0xED, 0xB0], .ldir), ([0xED, 0xA8], .ldd),
  ([0xED, 0xB8], .lddr), ([0xED, 0xA1], .cpi), ([0xED, 0xB1], .cpir), ([0xED, 0xA9], .cpd), ([0xED, 0xB9], .cpdr)] = true := by decide

/-- The encodings of spec/43_arith8.md. -/
theorem test_decode_arith8_1 : allDecode [
  ([0x81], (.addAR .c)), ([0xC6, 0x33], (.addAN 0x33)), ([0x86], .addAAtHl),
  ([0xDD, 0x86, 0x05], (.addAAtIx 0x05)), ([0xFD, 0x86, 0x05], (.addAAtIy 0x05)), ([0x89], (.adcAR .c)),
  ([0xCE, 0x10], (.adcAN 0x10)), ([0x8E], .adcAAtHl), ([0xDD, 0x8E, 0x05], (.adcAAtIx 0x05)),
  ([0xFD, 0x8E, 0x05], (.adcAAtIy 0x05)), ([0x91], (.subR .c)), ([0xD6, 0x11], (.subN 0x11)), ([0x96], .subAtHl),
  ([0xDD, 0x96, 0x05], (.subAtIx 0x05)), ([0xFD, 0x96, 0x05], (.subAtIy 0x05)), ([0x99], (.sbcAR .c)),
  ([0xDE, 0x05], (.sbcAN 0x05)), ([0x9E], .sbcAAtHl), ([0xDD, 0x9E, 0x05], (.sbcAAtIx 0x05)),
  ([0xFD, 0x9E, 0x05], (.sbcAAtIy 0x05)), ([0xA1], (.andR .c)), ([0xE6, 0x7B], (.andN 0x7B))] = true := by decide

/-- The encodings of spec/43_arith8.md. -/
theorem test_decode_arith8_2 : allDecode [
  ([0xA6], .andAtHl), ([0xDD, 0xA6, 0x05], (.andAtIx 0x05)), ([0xFD, 0xA6, 0x05], (.andAtIy 0x05)),
  ([0xA9], (.xorR .c)), ([0xEE, 0x5D], (.xorN 0x5D)), ([0xAE], .xorAtHl), ([0xDD, 0xAE, 0x05], (.xorAtIx 0x05)),
  ([0xFD, 0xAE, 0x05], (.xorAtIy 0x05)), ([0xB1], (.orR .c)), ([0xF6, 0x48], (.orN 0x48)), ([0xB6], .orAtHl),
  ([0xDD, 0xB6, 0x05], (.orAtIx 0x05)), ([0xFD, 0xB6, 0x05], (.orAtIy 0x05)), ([0xB9], (.cpR .c)),
  ([0xFE, 0x63], (.cpN 0x63)), ([0xBE], .cpAtHl), ([0xDD, 0xBE, 0x05], (.cpAtIx 0x05)),
  ([0xFD, 0xBE, 0x05], (.cpAtIy 0x05)), ([0x14], (.incR .d)), ([0x34], .incAtHl),
  ([0xDD, 0x34, 0x10], (.incAtIx 0x10)), ([0xFD, 0x34, 0x10], (.incAtIy 0x10))] = true := by decide

/-- The encodings of spec/43_arith8.md. -/
theorem test_decode_arith8_3 : allDecode [
  ([0x15], (.decR .d)), ([0x35], .decAtHl), ([0xDD, 0x35, 0x10], (.decAtIx 0x10)),
  ([0xFD, 0x35, 0x10], (.decAtIy 0x10))] = true := by decide

/-- The encodings of spec/44_general_cpu_control.md. -/
theorem test_decode_control : allDecode [
  ([0x27], .daa), ([0x2F], .cpl), ([0xED, 0x44], .neg), ([0x3F], .ccf), ([0x37], .scf), ([0x00], .nop),
  ([0x76], .halt), ([0xF3], .di), ([0xFB], .ei), ([0xED, 0x46], .im0), ([0xED, 0x56], .im1), ([0xED, 0x5E], .im2)] = true := by decide

/-- The encodings of spec/45_arith16.md. -/
theorem test_decode_arith16 : allDecode [
  ([0x19], (.addHlSs .de)), ([0xED, 0x4A], (.adcHlSs .bc)), ([0xED, 0x52], (.sbcHlSs .de)),
  ([0xDD, 0x09], (.addIxPp .bc)), ([0xFD, 0x09], (.addIyRr .bc)), ([0x23], (.incSs .hl)), ([0xDD, 0x23], .incIx),
  ([0xFD, 0x23], .incIy), ([0x2B], (.decSs .hl)), ([0xDD, 0x2B], .decIx), ([0xFD, 0x2B], .decIy)] = true := by decide

/-- The encodings of spec/46_rotate_shift.md. -/
theorem test_decode_rotate_shift_1 : allDecode [
  ([0x07], .rlca), ([0x17], .rla), ([0x0F], .rrca), ([0x1F], .rra), ([0xCB, 0x02], (.rlcR .d)),
  ([0xCB, 0x06], .rlcAtHl), ([0xDD, 0xCB, 0x02, 0x06], (.rlcAtIx 0x02)),
  ([0xFD, 0xCB, 0x02, 0x06], (.rlcAtIy 0x02)), ([0xCB, 0x0A], (.rrcR .d)), ([0xCB, 0x0E], .rrcAtHl),
  ([0xDD, 0xCB, 0x02, 0x0E], (.rrcAtIx 0x02)), ([0xFD, 0xCB, 0x02, 0x0E], (.rrcAtIy 0x02)),
  ([0xCB, 0x12], (.rlR .d)), ([0xCB, 0x16], .rlAtHl), ([0xDD, 0xCB, 0x02, 0x16], (.rlAtIx 0x02)),
  ([0xFD, 0xCB, 0x02, 0x16], (.rlAtIy 0x02)), ([0xCB, 0x1A], (.rrR .d)), ([0xCB, 0x1E], .rrAtHl),
  ([0xDD, 0xCB, 0x02, 0x1E], (.rrAtIx 0x02)), ([0xFD, 0xCB, 0x02, 0x1E], (.rrAtIy 0x02)),
  ([0xCB, 0x22], (.slaR .d)), ([0xCB, 0x26], .slaAtHl)] = true := by decide

/-- The encodings of spec/46_rotate_shift.md. -/
theorem test_decode_rotate_shift_2 : allDecode [
  ([0xDD, 0xCB, 0x02, 0x26], (.slaAtIx 0x02)), ([0xFD, 0xCB, 0x02, 0x26], (.slaAtIy 0x02)),
  ([0xCB, 0x2A], (.sraR .d)), ([0xCB, 0x2E], .sraAtHl), ([0xDD, 0xCB, 0x02, 0x2E], (.sraAtIx 0x02)),
  ([0xFD, 0xCB, 0x02, 0x2E], (.sraAtIy 0x02)), ([0xCB, 0x3A], (.srlR .d)), ([0xCB, 0x3E], .srlAtHl),
  ([0xDD, 0xCB, 0x02, 0x3E], (.srlAtIx 0x02)), ([0xFD, 0xCB, 0x02, 0x3E], (.srlAtIy 0x02)), ([0xED, 0x6F], .rld),
  ([0xED, 0x67], .rrd)] = true := by decide

/-- The encodings of spec/47_bit.md. -/
theorem test_decode_bit : allDecode [
  ([0xCB, 0x50], (.bitBR 2 .b)), ([0xCB, 0x66], (.bitBAtHl 4)), ([0xDD, 0xCB, 0x04, 0x76], (.bitBAtIx 6 0x04)),
  ([0xFD, 0xCB, 0x04, 0x76], (.bitBAtIy 6 0x04)), ([0xCB, 0xE7], (.setBR 4 .a)), ([0xCB, 0xE6], (.setBAtHl 4)),
  ([0xDD, 0xCB, 0x03, 0xC6], (.setBAtIx 0 0x03)), ([0xFD, 0xCB, 0x03, 0xC6], (.setBAtIy 0 0x03)),
  ([0xCB, 0xB2], (.resBR 6 .d)), ([0xCB, 0xA6], (.resBAtHl 4)), ([0xDD, 0xCB, 0x03, 0x86], (.resBAtIx 0 0x03)),
  ([0xFD, 0xCB, 0x03, 0x86], (.resBAtIy 0 0x03))] = true := by decide

/-- The encodings of spec/48_jump_call_return.md. -/
theorem test_decode_jump : allDecode [
  ([0xC3, 0x00, 0x30], (.jpNn 0x3000)), ([0xDA, 0x20, 0x15], (.jpCcNn .c 0x1520)), ([0x18, 0x03], (.jrE 0x03)),
  ([0x38, 0xFC], (.jrCE 0xFC)), ([0x30, 0xFC], (.jrNcE 0xFC)), ([0x28, 0xFC], (.jrZE 0xFC)),
  ([0x20, 0xFC], (.jrNzE 0xFC)), ([0xE9], .jpHl), ([0xDD, 0xE9], .jpIx), ([0xFD, 0xE9], .jpIy),
  ([0x10, 0xFB], (.djnzE 0xFB)), ([0xCD, 0x35, 0x21], (.callNn 0x2135)),
  ([0xD4, 0x35, 0x21], (.callCcNn .nc 0x2135)), ([0xC9], .ret), ([0xF8], (.retCc .m)), ([0xED, 0x4D], .reti),
  ([0xED, 0x45], .retn), ([0xDF], (.rstP 0x18))] = true := by decide

/-- The encodings of spec/49_io.md. -/
theorem test_decode_io : allDecode [
  ([0xDB, 0x01], (.inAN 0x01)), ([0xED, 0x50], (.inRC .d)), ([0xED, 0xA2], .ini), ([0xED, 0xB2], .inir),
  ([0xED, 0xAA], .ind), ([0xED, 0xBA], .indr), ([0xD3, 0x01], (.outNA 0x01)), ([0xED, 0x51], (.outCR .d)),
  ([0xED, 0xA3], .outi), ([0xED, 0xB3], .otir), ([0xED, 0xAB], .outd), ([0xED, 0xBB], .otdr)] = true := by decide

/-- The unassigned sequences of scenario S20, and one of each other kind (spec/30_encoding.md R129). -/
theorem test_unassigned_rejected : decode [0xED, 0x00] = .error (.unassignedED 0x00) ∧
    decode [0xED, 0x70] = .error (.unassignedED 0x70) ∧ decode [0xED, 0xA4] = .error (.unassignedED 0xA4) ∧
    decode [0xDD, 0x00] = .error (.unassignedXY 0xDD 0x00) ∧ decode [0xFD, 0xDD] = .error (.unassignedXY 0xFD 0xDD) ∧
    decode [0xCB, 0x30] = .error (.unassignedCB 0x30) ∧
    decode [0xDD, 0xCB, 0x00, 0x00] = .error (.unassignedXYCB 0xDD 0x00 0x00) ∧
    decode [0xFD, 0xCB, 0x05, 0x36] = .error (.unassignedXYCB 0xFD 0x05 0x36) ∧
    decode [0xDD, 0xCB, 0x05] = .error .truncated := by decide

/-- A table word, in both readings of the host's bit numbers (log entry 16). -/
theorem test_table_words : decodeTableWord 8 0x41 = some (.ldRR .b .c) ∧
    decodeTableWord 32 0xDD360528 = some (.ldAtIxN 0x05 0x28) ∧
    decodeTableWord 32 0x280536DD = some (.ldAtIxN 0x05 0x28) ∧ decodeTableWord 16 0xB0ED = some .ldir ∧
    decodeTableWord 16 0xEDB0 = some .ldir := by decide

/-! One step. -/

/-- The state after reset with these bytes in memory and PC at pc. -/
def start (m : Memory) (pc : Word) : State := { State.reset with mem := m, pc := pc }

/-- The step from s ends in a next state of which p holds. -/
def gives (s : State) (p : State → Bool) : Bool :=
  match step s with
  | .next t => p t
  | _ => false

theorem test_placed_word_runs : gives (State.reset.withFetchWord 16 0xB0ED) (fun t => t.pc == 0x0000 && t.r == 0x02) = true := by
  decide

/-! The vectors of spec/95_test_vectors.md, section 2, by their numbers: every operand, flag and address they name. -/

theorem test_v4 : gives { start [(0x1000, 0x75)] 0x1000 with h := 0x20, l := 0xFE } (fun t =>
    t.mem.byteAt 0x20FE == some 0xFE && t.pc == 0x1001) = true := by decide
theorem test_v5 : gives
    { start [(0x1000, 0xDD), (0x1001, 0x7E), (0x1002, 0x80), (0x2000, 0x11)] 0x1000 with
      ix := 0x2080 } (fun t =>
    t.a == 0x11 && t.pc == 0x1003) = true := by decide
theorem test_v6 : gives
    { start [(0x006F, 0x22), (0x1000, 0xDD), (0x1001, 0x7E), (0x1002, 0x7F)] 0x1000 with
      ix := 0xFFF0 } (fun t =>
    t.a == 0x22 && t.pc == 0x1003) = true := by decide
theorem test_v8 : gives (start [(0x1000, 0x3A), (0x1001, 0xFF), (0x1002, 0xFF), (0xFFFF, 0x77)] 0x1000) (fun t =>
    t.a == 0x77 && t.pc == 0x1003) = true := by decide
theorem test_v10 : gives
    { start [(0x1000, 0xED), (0x1001, 0x57)] 0x1000 with
      a := 0xFF, iff2 := true, f := FlagReg.ofByte 0xFF } (fun t =>
    t.a == 0x00 && t.f.toFlags == ⟨false, true, false, true, false, true⟩ && t.pc == 0x1002) = true := by decide
theorem test_v13 : gives
    { start [(0x1000, 0xED), (0x1001, 0x5F)] 0x1000 with
      r := 0xFE, iff2 := true, f := FlagReg.ofByte 0x01 } (fun t =>
    t.a == 0x80 && t.f.toFlags == ⟨true, false, false, true, false, true⟩ && t.r == 0x80 &&
    t.pc == 0x1002) = true := by decide
theorem test_v17 : gives
    (start [(0x0000, 0x12), (0x1000, 0x2A), (0x1001, 0xFF), (0x1002, 0xFF), (0xFFFF, 0x34)] 0x1000) (fun t =>
    t.h == 0x12 && t.l == 0x34 && t.pc == 0x1003) = true := by decide
theorem test_v20 : gives
    { start [(0x1000, 0xF5)] 0x1000 with
      a := 0x12, f := FlagReg.ofByte 0xFF, sp := 0x0001 } (fun t =>
    t.sp == 0xFFFF && t.mem.byteAt 0x0000 == some 0x12 && t.mem.byteAt 0xFFFF == some 0xFF && t.pc == 0x1001 &&
    t.f == FlagReg.ofByte 0xFF) = true := by decide
theorem test_v21 : gives { start [(0x0000, 0x12), (0x1000, 0xF1), (0xFFFF, 0xD7)] 0x1000 with sp := 0xFFFF } (fun t =>
    t.a == 0x12 && t.sp == 0x0001 && t.f == FlagReg.ofByte 0xD7 && t.pc == 0x1001) = true := by decide
theorem test_v24 : gives
    { start [(0x1000, 0xFD), (0x1001, 0xE1), (0x2000, 0xEF), (0x2001, 0xBE)] 0x1000 with
      sp := 0x2000 } (fun t =>
    t.iy == 0xBEEF && t.sp == 0x2002 && t.pc == 0x1002) = true := by decide
theorem test_v29 : gives
    { start [(0x1000, 0xD9)] 0x1000 with
      b := 0x01, c := 0x02, d := 0x03, e := 0x04, h := 0x05, l := 0x06, bAlt := 0x11, cAlt := 0x12, dAlt := 0x13,
      eAlt := 0x14, hAlt := 0x15, lAlt := 0x16, a := 0xAA } (fun t =>
    t.b == 0x11 && t.c == 0x12 && t.d == 0x13 && t.e == 0x14 && t.h == 0x15 && t.l == 0x16 && t.bAlt == 0x01 &&
    t.cAlt == 0x02 && t.dAlt == 0x03 && t.eAlt == 0x04 && t.hAlt == 0x05 && t.lAlt == 0x06 &&
    t.pc == 0x1001) = true := by decide
theorem test_v31 : gives
    { start [(0x0000, 0x22), (0x1000, 0xFD), (0x1001, 0xE3), (0xFFFF, 0x11)] 0x1000 with
      sp := 0xFFFF, iy := 0x7012 } (fun t =>
    t.iy == 0x2211 && t.mem.byteAt 0x0000 == some 0x70 && t.mem.byteAt 0xFFFF == some 0x12 &&
    t.pc == 0x1002) = true := by decide
theorem test_v32 : gives
    { start [(0x1000, 0xED), (0x1001, 0xA0), (0x1111, 0x88), (0x2222, 0x66)] 0x1000 with
      h := 0x11, l := 0x11, d := 0x22, e := 0x22, b := 0x00, c := 0x01, f := FlagReg.ofByte 0xFF } (fun t =>
    t.b == 0x00 && t.c == 0x00 && t.d == 0x22 && t.e == 0x23 && t.h == 0x11 && t.l == 0x12 &&
    t.mem.byteAt 0x2222 == some 0x88 && t.f.toFlags == ⟨true, true, false, false, false, true⟩ &&
    t.pc == 0x1002) = true := by decide
theorem test_v35 : gives
    { start [(0x1000, 0xED), (0x1001, 0xB0), (0x2000, 0x77)] 0x1000 with
      h := 0x20, l := 0x00, d := 0x30, e := 0x00 } (fun t =>
    t.b == 0xFF && t.c == 0xFF && t.d == 0x30 && t.e == 0x01 && t.h == 0x20 && t.l == 0x01 &&
    t.mem.byteAt 0x3000 == some 0x77 && t.f.toFlags == ⟨false, false, false, true, false, false⟩ &&
    t.pc == 0x1000) = true := by decide
theorem test_v37 : gives
    { start [(0x1000, 0xED), (0x1001, 0xA1), (0x1111, 0x3B)] 0x1000 with
      a := 0x3B, h := 0x11, l := 0x11, b := 0x00, c := 0x01, f := FlagReg.ofByte 0x01 } (fun t =>
    t.b == 0x00 && t.c == 0x00 && t.h == 0x11 && t.l == 0x12 && t.f.toFlags == ⟨false, true, false, false, true,
    true⟩ && t.pc == 0x1002) = true := by decide
theorem test_v38 : gives
    { start [(0x1000, 0xED), (0x1001, 0xA1), (0x1111, 0x01)] 0x1000 with
      h := 0x11, l := 0x11, b := 0x00, c := 0x02 } (fun t =>
    t.b == 0x00 && t.c == 0x01 && t.h == 0x11 && t.l == 0x12 && t.f.toFlags == ⟨true, false, true, true, true,
    false⟩ && t.pc == 0x1002) = true := by decide
theorem test_v43 : gives { start [(0x1000, 0x80)] 0x1000 with a := 0x7F, b := 0x01 } (fun t =>
    t.a == 0x80 && t.f.toFlags == ⟨true, false, true, true, false, false⟩ && t.pc == 0x1001) = true := by decide
theorem test_v45 : gives { start [(0x1000, 0x87)] 0x1000 with a := 0x80 } (fun t =>
    t.a == 0x00 && t.f.toFlags == ⟨false, true, false, true, false, true⟩ && t.pc == 0x1001) = true := by decide
theorem test_v47 : gives { start [(0x1000, 0x8F)] 0x1000 with a := 0x7F, f := FlagReg.ofByte 0x01 } (fun t =>
    t.a == 0xFF && t.f.toFlags == ⟨true, false, true, true, false, false⟩ && t.pc == 0x1001) = true := by decide
theorem test_v48 : gives
    { start [(0x1000, 0x86), (0x2000, 0x01)] 0x1000 with
      a := 0x0F, h := 0x20, l := 0x00 } (fun t =>
    t.a == 0x10 && t.f.toFlags == ⟨false, false, true, false, false, false⟩ && t.pc == 0x1001) = true := by decide
theorem test_v50 : gives { start [(0x1000, 0x91)] 0x1000 with a := 0x80, c := 0x01 } (fun t =>
    t.a == 0x7F && t.f.toFlags == ⟨false, false, true, true, true, false⟩ && t.pc == 0x1001) = true := by decide
theorem test_v53 : gives { start [(0x1000, 0x9F)] 0x1000 with a := 0x80, f := FlagReg.ofByte 0x01 } (fun t =>
    t.a == 0xFF && t.f.toFlags == ⟨true, false, true, false, true, true⟩ && t.pc == 0x1001) = true := by decide
theorem test_v54 : gives
    { start [(0x1000, 0xA0)] 0x1000 with
      a := 0xF0, b := 0x0F, f := FlagReg.ofByte 0x01 } (fun t =>
    t.a == 0x00 && t.f.toFlags == ⟨false, true, true, true, false, false⟩ && t.pc == 0x1001) = true := by decide
theorem test_v56 : gives
    { start [(0x1000, 0xB6), (0x2000, 0x80)] 0x1000 with
      h := 0x20, l := 0x00, f := FlagReg.ofByte 0x01 } (fun t =>
    t.a == 0x80 && t.f.toFlags == ⟨true, false, false, false, false, false⟩ && t.pc == 0x1001) = true := by decide
theorem test_v57 : gives (start [(0x1000, 0xFE), (0x1001, 0x80)] 0x1000) (fun t =>
    t.f.toFlags == ⟨true, false, false, true, true, true⟩ && t.pc == 0x1002) = true := by decide
theorem test_v59 : gives { start [(0x1000, 0x04)] 0x1000 with b := 0x7F, f := FlagReg.ofByte 0x01 } (fun t =>
    t.b == 0x80 && t.f.toFlags == ⟨true, false, true, true, false, true⟩ && t.pc == 0x1001) = true := by decide
theorem test_v61 : gives { start [(0x1000, 0x35), (0x2000, 0x80)] 0x1000 with h := 0x20, l := 0x00 } (fun t =>
    t.mem.byteAt 0x2000 == some 0x7F && t.f.toFlags == ⟨false, false, true, true, true, false⟩ &&
    t.pc == 0x1001) = true := by decide
theorem test_v65 : gives
    { start [(0x1000, 0xFD), (0x1001, 0x86), (0x1002, 0x05), (0x2005, 0xF0)] 0x1000 with
      a := 0x10, iy := 0x2000 } (fun t =>
    t.a == 0x00 && t.f.toFlags == ⟨false, true, false, false, false, true⟩ && t.pc == 0x1003) = true := by decide
theorem test_v66 : gives
    { start [(0x1000, 0xDD), (0x1001, 0x9E), (0x1002, 0xFF), (0xFFFF, 0x01)] 0x1000 with
      a := 0x10, f := FlagReg.ofByte 0x01 } (fun t =>
    t.a == 0x0E && t.f.toFlags == ⟨false, false, true, false, true, false⟩ && t.pc == 0x1003) = true := by decide
theorem test_v67 : gives { start [(0x1000, 0x27)] 0x1000 with a := 0x3C } (fun t =>
    t.a == 0x42 && t.f.s == false && t.f.z == false && t.f.pv == true && t.f.n == false && t.f.c == false &&
    t.pc == 0x1001) = true := by decide
theorem test_v69 : gives { start [(0x1000, 0x27)] 0x1000 with a := 0x2D, f := FlagReg.ofByte 0x12 } (fun t =>
    t.a == 0x27 && t.f.s == false && t.f.z == false && t.f.pv == true && t.f.n == true && t.f.c == false &&
    t.pc == 0x1001) = true := by decide
theorem test_v70 : gives { start [(0x1000, 0x27)] 0x1000 with f := FlagReg.ofByte 0x13 } (fun t =>
    t.a == 0x9A && t.f.s == true && t.f.z == false && t.f.pv == true && t.f.n == true && t.f.c == true &&
    t.pc == 0x1001) = true := by decide
theorem test_v72 : gives { start [(0x1000, 0x2F)] 0x1000 with a := 0xB4 } (fun t =>
    t.a == 0x4B && t.f.toFlags == ⟨false, false, true, false, true, false⟩ && t.pc == 0x1001) = true := by decide
theorem test_v74 : gives { start [(0x1000, 0xED), (0x1001, 0x44)] 0x1000 with f := FlagReg.ofByte 0xFF } (fun t =>
    t.f.toFlags == ⟨false, true, false, false, true, false⟩ && t.pc == 0x1002) = true := by decide
theorem test_v76 : gives { start [(0x1000, 0x3F)] 0x1000 with f := FlagReg.ofByte 0x01 } (fun t =>
    t.f.toFlags == ⟨false, false, true, false, false, false⟩ && t.pc == 0x1001) = true := by decide
theorem test_v81 : gives (start [(0x1000, 0xFB)] 0x1000) (fun t =>
    t.iff1 == true && t.iff2 == true && t.pc == 0x1001) = true := by decide
theorem test_v83 : gives { start [(0x1000, 0xED), (0x1001, 0x56)] 0x1000 with im := .mode2 } (fun t =>
    t.im == .mode1 && t.pc == 0x1002) = true := by decide
theorem test_v86 : gives
    { start [(0x1000, 0x29)] 0x1000 with
      h := 0x80, l := 0x00, f := FlagReg.ofByte 0xC4 } (fun t =>
    t.h == 0x00 && t.l == 0x00 && t.f.toFlags == ⟨true, true, false, true, false, true⟩ &&
    t.pc == 0x1001) = true := by decide
theorem test_v88 : gives
    { start [(0x1000, 0xED), (0x1001, 0x5A)] 0x1000 with
      h := 0x7F, l := 0xFF, f := FlagReg.ofByte 0x01 } (fun t =>
    t.h == 0x80 && t.l == 0x00 && t.f.toFlags == ⟨true, false, true, true, false, false⟩ &&
    t.pc == 0x1002) = true := by decide
theorem test_v90 : gives
    { start [(0x1000, 0xED), (0x1001, 0x62)] 0x1000 with
      h := 0x12, l := 0x34, f := FlagReg.ofByte 0x01 } (fun t =>
    t.h == 0xFF && t.l == 0xFF && t.f.toFlags == ⟨true, false, true, false, true, true⟩ &&
    t.pc == 0x1002) = true := by decide
theorem test_v91 : gives
    { start [(0x1000, 0xED), (0x1001, 0x52)] 0x1000 with
      h := 0x80, l := 0x00, d := 0x00, e := 0x01 } (fun t =>
    t.h == 0x7F && t.l == 0xFF && t.f.toFlags == ⟨false, false, true, true, true, false⟩ &&
    t.pc == 0x1002) = true := by decide
theorem test_v94 : gives { start [(0x1000, 0xFD), (0x1001, 0x39)] 0x1000 with iy := 0xFFFF, sp := 0x0001 } (fun t =>
    t.iy == 0x0000 && t.f.toFlags == ⟨false, false, true, false, false, true⟩ && t.pc == 0x1002) = true := by decide
theorem test_v96 : gives (start [(0x1000, 0x0B)] 0x1000) (fun t =>
    t.b == 0xFF && t.c == 0xFF && t.pc == 0x1001) = true := by decide
theorem test_v99 : gives { start [(0x1000, 0x07)] 0x1000 with a := 0x80, f := FlagReg.ofByte 0xC4 } (fun t =>
    t.a == 0x01 && t.f.toFlags == ⟨true, true, false, true, false, true⟩ && t.pc == 0x1001) = true := by decide
theorem test_v100 : gives { start [(0x1000, 0x17)] 0x1000 with a := 0x80, f := FlagReg.ofByte 0x01 } (fun t =>
    t.a == 0x01 && t.f.toFlags == ⟨false, false, false, false, false, true⟩ && t.pc == 0x1001) = true := by decide
theorem test_v103 : gives { start [(0x1000, 0xCB), (0x1001, 0x00)] 0x1000 with b := 0x80 } (fun t =>
    t.b == 0x01 && t.f.toFlags == ⟨false, false, false, false, false, true⟩ && t.pc == 0x1002) = true := by decide
theorem test_v106 : gives
    { start [(0x1000, 0xCB), (0x1001, 0x1A)] 0x1000 with
      d := 0x01, f := FlagReg.ofByte 0x01 } (fun t =>
    t.d == 0x80 && t.f.toFlags == ⟨true, false, false, false, false, true⟩ && t.pc == 0x1002) = true := by decide
theorem test_v108 : gives { start [(0x1000, 0xCB), (0x1001, 0x2C)] 0x1000 with h := 0x81 } (fun t =>
    t.h == 0xC0 && t.f.toFlags == ⟨true, false, false, true, false, true⟩ && t.pc == 0x1002) = true := by decide
theorem test_v111 : gives
    { start [(0x1000, 0xED), (0x1001, 0x6F), (0x5000, 0x31)] 0x1000 with
      a := 0x7A, h := 0x50, l := 0x00, f := FlagReg.ofByte 0x01 } (fun t =>
    t.a == 0x73 && t.mem.byteAt 0x5000 == some 0x1A && t.f.toFlags == ⟨false, false, false, false, false, true⟩ &&
    t.pc == 0x1002) = true := by decide
theorem test_v112 : gives
    { start [(0x1000, 0xED), (0x1001, 0x67), (0x5000, 0x20)] 0x1000 with
      a := 0x84, h := 0x50, l := 0x00 } (fun t =>
    t.a == 0x80 && t.mem.byteAt 0x5000 == some 0x42 && t.f.toFlags == ⟨true, false, false, false, false, false⟩ &&
    t.pc == 0x1002) = true := by decide
theorem test_v114 : gives
    { start [(0x1000, 0xFD), (0x1001, 0xCB), (0x1002, 0xFE), (0x1003, 0x3E), (0x1FFE, 0x8F)] 0x1000 with
      iy := 0x2000 } (fun t =>
    t.mem.byteAt 0x1FFE == some 0x47 && t.f.toFlags == ⟨false, false, false, true, false, true⟩ &&
    t.pc == 0x1004) = true := by decide
theorem test_v116 : gives
    { start [(0x1000, 0xCB), (0x1001, 0x46), (0x2000, 0xFE)] 0x1000 with
      h := 0x20, l := 0x00 } (fun t =>
    t.f.z == true && t.f.h == true && t.f.n == false && t.f.c == false && t.pc == 0x1002) = true := by decide
theorem test_v117 : gives
    { start [(0x1000, 0xDD), (0x1001, 0xCB), (0x1002, 0x04), (0x1003, 0x66), (0x2004, 0x10)] 0x1000 with
      ix := 0x2000 } (fun t =>
    t.f.z == false && t.f.h == true && t.f.n == false && t.f.c == false && t.pc == 0x1004) = true := by decide
theorem test_v119 : gives { start [(0x1000, 0xCB), (0x1001, 0x87)] 0x1000 with a := 0xFF } (fun t =>
    t.a == 0xFE && t.pc == 0x1002) = true := by decide
theorem test_v121 : gives
    { start [(0x1000, 0xFD), (0x1001, 0xCB), (0x1002, 0xFF), (0x1003, 0xDE), (0x1FFF, 0x00)] 0x1000 with
      iy := 0x2000 } (fun t =>
    t.mem.byteAt 0x1FFF == some 0x08 && t.pc == 0x1004) = true := by decide
theorem test_v125 : gives
    { start [(0x1000, 0xDA), (0x1001, 0x00), (0x1002, 0x20)] 0x1000 with
      f := FlagReg.ofByte 0x01 } (fun t =>
    t.pc == 0x2000 && t.f == FlagReg.ofByte 0x01) = true := by decide
theorem test_v126 : gives
    { start [(0x1000, 0xE2), (0x1001, 0x00), (0x1002, 0x20)] 0x1000 with
      f := FlagReg.ofByte 0x04 } (fun t =>
    t.pc == 0x1003 && t.f == FlagReg.ofByte 0x04) = true := by decide
theorem test_v130 : gives (start [(0x1000, 0x18), (0x1001, 0x80)] 0x1000) (fun t =>
    t.pc == 0x0F82) = true := by decide
theorem test_v131 : gives (start [(0xFFFE, 0x18), (0xFFFF, 0x00)] 0xFFFE) (fun t =>
    t.pc == 0x0000) = true := by decide
theorem test_v134 : gives
    { start [(0x1000, 0x10), (0x1001, 0xFE)] 0x1000 with
      b := 0x01, f := FlagReg.ofByte 0xFF } (fun t =>
    t.b == 0x00 && t.pc == 0x1002 && t.f == FlagReg.ofByte 0xFF) = true := by decide
theorem test_v135 : gives (start [(0x1000, 0x10), (0x1001, 0xFE)] 0x1000) (fun t =>
    t.b == 0xFF && t.pc == 0x1000) = true := by decide
theorem test_v137 : gives { start [(0x1000, 0xDD), (0x1001, 0xE9)] 0x1000 with ix := 0x4800 } (fun t =>
    t.pc == 0x4800) = true := by decide
theorem test_v139 : gives
    { start [(0x1000, 0xC4), (0x1001, 0x00), (0x1002, 0x30)] 0x1000 with
      sp := 0x2000, f := FlagReg.ofByte 0x40 } (fun t =>
    t.pc == 0x1003 && t.f == FlagReg.ofByte 0x40) = true := by decide
theorem test_v141 : gives
    { start [(0x1000, 0xCD), (0x1001, 0x00), (0x1002, 0x30)] 0x1000 with
      sp := 0x0001 } (fun t =>
    t.sp == 0xFFFF && t.mem.byteAt 0x0000 == some 0x10 && t.mem.byteAt 0xFFFF == some 0x03 &&
    t.pc == 0x3000) = true := by decide
theorem test_v143 : gives
    { start [(0x2000, 0x03), (0x2001, 0x10), (0x3000, 0xF8)] 0x3000 with
      sp := 0x2000, f := FlagReg.ofByte 0x80 } (fun t =>
    t.sp == 0x2002 && t.pc == 0x1003 && t.f == FlagReg.ofByte 0x80) = true := by decide
theorem test_v145 : gives
    { start [(0x0066, 0xED), (0x0067, 0x45), (0x2000, 0x03), (0x2001, 0x10)] 0x0066 with
      sp := 0x2000, iff2 := true } (fun t =>
    t.sp == 0x2002 && t.iff1 == true && t.pc == 0x1003) = true := by decide
theorem test_v147 : gives { start [(0x1000, 0xFF)] 0x1000 with sp := 0x2000 } (fun t =>
    t.sp == 0x1FFE && t.mem.byteAt 0x1FFF == some 0x10 && t.mem.byteAt 0x1FFE == some 0x01 &&
    t.pc == 0x0038) = true := by decide
theorem test_v149 : gives
    { start [(0x1000, 0xDB), (0x1001, 0x34)] 0x1000 with
      a := 0x12, f := FlagReg.ofByte 0xFF, dataIn := [some 0x56] } (fun t =>
    t.a == 0x56 && t.pc == 0x1002 && t.trace.contains (.input 0x1234 0x56) &&
    t.f == FlagReg.ofByte 0xFF) = true := by decide
theorem test_v150 : gives
    { start [(0x1000, 0xED), (0x1001, 0x50)] 0x1000 with
      b := 0x12, c := 0x34, f := FlagReg.ofByte 0x01, dataIn := [some 0x00] } (fun t =>
    t.f.toFlags == ⟨false, true, false, true, false, true⟩ && t.pc == 0x1002 &&
    t.trace.contains (.input 0x1234 0x00)) = true := by decide
theorem test_v153 : gives
    { start [(0x1000, 0xED), (0x1001, 0x59)] 0x1000 with
      b := 0x12, c := 0x34, e := 0x5A } (fun t =>
    t.pc == 0x1002 && t.trace.contains (.output 0x1234 0x5A)) = true := by decide
theorem test_v155 : gives
    { start [(0x1000, 0xED), (0x1001, 0xA2)] 0x1000 with
      b := 0x00, c := 0x34, h := 0xFF, l := 0xFF, dataIn := [some 0x7B] } (fun t =>
    t.b == 0xFF && t.c == 0x34 && t.h == 0x00 && t.l == 0x00 && t.mem.byteAt 0xFFFF == some 0x7B &&
    t.f.z == false && t.pc == 0x1002 && t.trace.contains (.input 0x0034 0x7B)) = true := by decide
theorem test_v159 : gives
    { start [(0x1000, 0xED), (0x1001, 0xA3), (0x2000, 0x59)] 0x1000 with
      b := 0x02, c := 0x10, h := 0x20, l := 0x00 } (fun t =>
    t.b == 0x01 && t.c == 0x10 && t.h == 0x20 && t.l == 0x01 && t.f.z == false && t.pc == 0x1002 &&
    t.trace.contains (.output 0x0110 0x59)) = true := by decide
theorem test_v161 : gives
    { start [(0x1000, 0xED), (0x1001, 0xAB), (0x2000, 0x59)] 0x1000 with
      b := 0x01, c := 0x10, h := 0x20, l := 0x00 } (fun t =>
    t.b == 0x00 && t.c == 0x10 && t.h == 0x1F && t.l == 0xFF && t.f.z == true && t.pc == 0x1002 &&
    t.trace.contains (.output 0x0010 0x59)) = true := by decide

/-! Scenarios of spec/95_test_vectors.md, section 3. -/

/-- A NOP at 1000H, SP = 8000H, R = 10H, both flip-flops set. -/
def atNop (im : IntMode) : State :=
  { start [(0x1000, 0x00)] 0x1000 with sp := 0x8000, r := 0x10, iff1 := true, iff2 := true, im := im }

/-- INT at "0". -/
def intPins : Pins := { Pins.quiet with intLow := true }

theorem test_s1_nmi : gives { atNop .mode1 with nmiPending := true } (fun t =>
    t.pc == 0x0066 && t.sp == 0x7FFE && t.r == 0x12 && t.iff1 == false && t.iff2 == true &&
      t.mem.byteAt 0x7FFF == some 0x10 && t.mem.byteAt 0x7FFE == some 0x01 && t.nmiPending == false) = true := by decide
theorem test_s3_int_mode1 : gives { atNop .mode1 with pins := intPins } (fun t =>
    t.pc == 0x0038 && t.sp == 0x7FFE && t.r == 0x12 && t.iff1 == false && t.iff2 == false &&
      t.mem.byteAt 0x7FFF == some 0x10 && t.mem.byteAt 0x7FFE == some 0x01) = true := by decide
theorem test_s5_int_mode2_odd : gives { atNop .mode2 with
      mem := [(0x1000, 0x00), (0x80FF, 0x34), (0x8100, 0x12)], sp := 0x7000, i := 0x80, dataIn := [some 0xFF],
      pins := intPins } (fun t => t.pc == 0x1234 && t.sp == 0x6FFE && t.r == 0x12) = true := by decide
theorem test_s6_int_mode0 : gives { atNop .mode0 with dataIn := [some 0xCF], pins := intPins } (fun t =>
    t.pc == 0x0008 && t.sp == 0x7FFE && t.iff1 == false) = true := by decide
theorem test_s6_not_restart : step { atNop .mode0 with dataIn := [some 0x00], pins := intPins } =
    .refused (.mode0NotRestart 0x00) := rfl
theorem test_s7_masked : gives { atNop .mode1 with iff1 := false, pins := intPins } (fun t =>
    t.pc == 0x1001 && t.sp == 0x8000) = true := by decide
theorem test_s8_ei_delay : gives { start [(0x1000, 0xFB)] 0x1000 with sp := 0x8000, im := .mode1, pins := intPins }
    (fun t => t.pc == 0x1001 && t.sp == 0x8000 && t.iff1 == true && t.eiShadow == true) = true := by decide
theorem test_s12_nmi_before_int : gives { atNop .mode1 with nmiPending := true, pins := intPins } (fun t =>
    t.pc == 0x0066 && t.iff2 == true) = true := by decide
theorem test_s14_halt_nop : gives { start [] 0x1001 with halted := true, r := 0x11 } (fun t =>
    t.pc == 0x1001 && t.r == 0x12 && t.halted == true) = true := by decide
theorem test_s15_halt_stop : gives { start [(0x1000, 0x76)] 0x1000 with pins := { Pins.quiet with ms2 := false } }
    (fun t => t.halted == true && t.clockState == .stopped && t.pc == 0x1001) = true := by decide
theorem test_s16_int_pulse_idle1 : gives { start [] 0x1001 with
      halted := true, clockState := .idle1, r := 0x11, pins := { Pins.quiet with ms1 := false, ms2 := false },
      inputs := [⟨{ intPins with ms1 := false, ms2 := false }, false, []⟩] } (fun t =>
    t.pc == 0x1001 && t.r == 0x12 && t.halted == true && t.clockState == .idle1) = true := by decide
theorem test_s14_nmi_ends_halt : gives { start [] 0x1001 with
      halted := true, sp := 0x8000, r := 0x13, iff1 := true, iff2 := true, inputs := [⟨Pins.quiet, true, []⟩] } (fun t =>
    t.pc == 0x0066 && t.sp == 0x7FFE && t.r == 0x15 && t.halted == false && t.iff1 == false && t.iff2 == true &&
      t.mem.byteAt 0x7FFF == some 0x10 && t.mem.byteAt 0x7FFE == some 0x01) = true := by decide
theorem test_s17_int_wakes_idle2 : gives { start [] 0x1002 with
      halted := true, clockState := .idle2, sp := 0x8000, r := 0x12, iff1 := true, iff2 := true, im := .mode1,
      pins := { Pins.quiet with ms1 := false }, inputs := [⟨{ intPins with ms1 := false }, false, []⟩] } (fun t =>
    t.pc == 0x0038 && t.sp == 0x7FFE && t.r == 0x14 && t.halted == false && t.clockState == .running &&
      t.iff1 == false && t.mem.byteAt 0x7FFF == some 0x10 && t.mem.byteAt 0x7FFE == some 0x02) = true := by decide
theorem test_s20_unassigned : step (start [(0x1000, 0xED), (0x1001, 0x00)] 0x1000) =
    .refused (.unassigned (.unassignedED 0x00)) := rfl
theorem test_reset_too_short : step { State.reset with pins := { Pins.quiet with reset := .tooShort } } =
    .fault .resetTooShort := rfl
/-- LD (2000H),HL, with RESET falling after n of its six bus cycles. -/
def cutStore (n : Nat) (corrupts : Bool) : State :=
  { start [(0x1000, 0x22), (0x1001, 0x00), (0x1002, 0x20), (0x2000, 0x11), (0x2001, 0x22)] 0x1000 with
    h := 0xAB, l := 0xCD, inputs := [⟨{ Pins.quiet with reset := .during n corrupts }, false, []⟩] }
/-- R522: "a 16-bit store or push may have written one byte", and the cycle cut short may corrupt its byte. -/
theorem test_reset_in_store : gives (cutStore 5 false) (fun t =>
    t.pc == 0x0000 && t.mem.byteAt 0x2000 == some 0xCD && t.mem.byteAt 0x2001 == some 0x22 &&
    t.pins.reset == .asserted) = true := by decide
/-- R88 in a step that RESET cuts: another master writes 1002H after the first M1 cycle, so the operand read later is the
new one, and 4000H after the fourth cycle, the operand reads being two. -/
theorem test_reset_in_store_granted : gives { cutStore 5 false with
      grants := [some [(0x1002, 0x30)], none, some [(0x4000, 0x77)], none, some [(0x5000, 0x88)]] } (fun t =>
    t.mem.byteAt 0x3000 == some 0xCD && t.mem.byteAt 0x2000 == some 0x11 && t.mem.byteAt 0x3001 == none &&
    t.mem.byteAt 0x4000 == some 0x77 && t.mem.byteAt 0x5000 == none &&
    t.grants == [some [(0x5000, 0x88)]]) = true := by decide
/-- An unassigned encoding, with RESET falling after n of the four bus cycles that read it. -/
def cutUnassigned (n : Nat) : State :=
  { start [(0x1000, 0xED), (0x1001, 0x00)] 0x1000 with
    inputs := [⟨{ Pins.quiet with reset := .during n false }, false, []⟩] }
/-- R522, R129: no refusal of bytes that RESET keeps from being executed. -/
theorem test_reset_before_unassigned : gives (cutUnassigned 1) (fun t => t.pc == 0x0000) = true := by decide
theorem test_reset_after_unassigned : step (cutUnassigned 4) = .refused (.unassigned (.unassignedED 0x00)) := rfl
/-- R522, R456: RESET before the acknowledge cycle has read its byte. -/
theorem test_reset_before_ack : gives { atNop .mode0 with
      dataIn := [some 0x00], inputs := [⟨{ intPins with reset := .during 2 false }, false, []⟩] } (fun t =>
    t.pc == 0x0000 && t.dataIn == [some 0x00]) = true := by decide
/-- R48, R87: RESET and BUSREQ both at "0" (log entry 20). -/
theorem test_reset_busreq : gives { start [] 0x1000 with
      inputs := [⟨{ Pins.quiet with reset := .asserted, busreqLow := true }, false, [(0x2000, 0x55)]⟩] } (fun t =>
    t.pc == 0x0000 && t.busGranted == true && t.mem.byteAt 0x2000 == some 0x55) = true := by decide
/-- R465, Table R95: the NOP of the halt state is an M1 cycle at PC. -/
theorem test_halt_nop_cycles : gives { start [] 0x1001 with halted := true, i := 0x12, r := 0x34 } (fun t =>
    t.trace == [.refresh 0x1234, .haltFetch 0x1001 none] &&
    (BusCycle.haltFetch 0x1001 none).signals == (BusCycle.fetch 0x1001 0x00).signals) = true := by decide
/-- R485, D24: BUSREQ with the clock stopped: the free answer decides on the other master's writes. -/
theorem test_sleep_busreq (answered : Bool) (h : (Config.freeByte 0).getLsbD 0 = answered) :
    (State.sleepGrant { State.reset with pins := { Pins.quiet with busreqLow := true } } [(0x2000, 0x55)]).mem =
      if answered then [(0x2000, 0x55)] else [] := by
  unfold State.sleepGrant State.draw
  cases answered
  · simp only [State.reset, h, Bool.false_eq_true, if_true, if_false]
  · simp only [State.reset, h, if_true]; rfl
/-- R473, U12: with INT at "0" at the step before too, and IFF1 = 0, R[6:0] is open also where an NMI ends the halt. -/
theorem test_nmi_after_int_stayed : ∃ t, step { start [] 0x1001 with
      halted := true, clockState := .idle2, sp := 0x8000, pins := intPins, nmiPending := true } = .next t ∧
    t.pc = 0x0066 ∧ t.r = inc7 (inc7 ((0x00 &&& 0x80) ||| (Config.freeByte 0 &&& 0x7F))) := ⟨_, rfl, rfl, rfl⟩
/-- U7: a port address at which nothing answers. -/
theorem test_port_empty : gives { start [(0x1000, 0xDB), (0x1001, 0x10)] 0x1000 with
      dataIn := [some 0x5A], ioMap := [⟨0x00FF, 0x0010, false⟩] } (fun t => t.dataIn == [some 0x5A] && t.draws == 1) =
    true := by decide
theorem test_reset_corrupts : ∃ t, step (cutStore 5 true) = .next t ∧
    t.mem.byteAt 0x2001 = some (Config.freeByte 0) ∧ t.mem.byteAt 0x2000 = some 0xCD := ⟨_, rfl, rfl, rfl⟩
theorem test_mode_changed : step { State.reset with
      halted := true, inputs := [⟨{ Pins.quiet with ms1 := false }, false, []⟩] } = .refused .modeChangedWhileHalted := rfl
theorem test_bus_writes : gives { start [] 0x1000 with
      inputs := [⟨{ Pins.quiet with busreqLow := true }, false, [(0x2000, 0x55)]⟩] } (fun t =>
    t.pc == 0x1000 && t.busGranted == true && t.mem.byteAt 0x2000 == some 0x55) = true := by decide
theorem test_rom_keeps : gives { start [(0x1000, 0x77), (0x2000, 0x11)] 0x1000 with
      a := 0x22, h := 0x20, memMap := [⟨0x2000, 0x2FFF, .rom⟩] } (fun t =>
    t.mem.byteAt 0x2000 == some 0x11) = true := by decide

/-! Witnesses: for each obligation with hypotheses, what meets them. -/

/-- A read of a byte listed in memory, the map empty. -/
theorem holds_listed (s : State) (a : Word) (v : Byte) (hm : s.memMap = []) (hv : s.mem.byteAt a.toNat = some v) :
    Holds s a v := by
  refine ⟨Or.inl ?_, hv⟩
  unfold State.kindAt
  rw [hm]
  rfl

/-- The statements with Alone as their only hypothesis: LoadRegisterFromMemory, StoreToMemory, LoadPairFromMemory,
StorePair, PushAndPop, ExchangeStackTop, BlockTransfer, BlockSearch, AccumulatorOnMemory, IncDecByte, ShiftMemory,
RotateDigits, TestBit, SetAndResetBit, CallPushesReturn, ReturnPopsPc, InputAndOutput, BlockInputAndOutput, and the
clauses of RefreshCounter and StackRules; at SP, HL and BC at the ends of their ranges. -/
theorem witness_alone : Alone State.reset ∧ Alone { State.reset with sp := 0xFFFF, h := 0xFF, l := 0xFF, b := 0x00, c := 0x01 } :=
  ⟨rfl, rfl⟩

theorem witness_DecodeOfEncode : WellFormed (.bitBAtIx 7 0x80) = true ∧ WellFormed (.rstP 0x38) = true := ⟨rfl, rfl⟩

theorem witness_EncodeOfDecode : decode [0xFD, 0xCB, 0x80, 0x7E, 0x00] = .ok (.bitBAtIy 7 0x80, [0x00]) ∧
    decode [0xFF] = .ok (.rstP 0x38, []) := by decide

/-- A state whose bytes cross the end of the address space. -/
def wrapped (b0 b1 b2 b3 : Byte) : State := start [(0x0000, b2), (0x0001, b3), (0xFFFE, b0), (0xFFFF, b1)] 0xFFFE

theorem wrapped_holds (b0 b1 b2 b3 : Byte) (n : Nat) (v : Byte) (h : [b0, b1, b2, b3][n]? = some v) :
    Holds (wrapped b0 b1 b2 b3) ((wrapped b0 b1 b2 b3).pc + BitVec.ofNat 16 n) v := by
  rcases n with _ | _ | _ | _ | n <;> cases h <;> refine ⟨Or.inl rfl, ?_⟩ <;> simp [wrapped, start, Memory.byteAt]

theorem witness_StepRefusesUnassigned :
    Alone (wrapped 0xDD 0xCB 0x05 0x36) ∧ (wrapped 0xDD 0xCB 0x05 0x36).takeInput.pins.reset = .inactive ∧
    (wrapped 0xDD 0xCB 0x05 0x36).takeInput.pins.busreqLow = false ∧ (wrapped 0xDD 0xCB 0x05 0x36).halted = false ∧
    decode [0xDD, 0xCB, 0x05, 0x36] = .error (.unassignedXYCB 0xDD 0x05 0x36) ∧
    Reject.unassignedXYCB 0xDD 0x05 0x36 ≠ .truncated ∧
    (∀ n < [0xDD, 0xCB, 0x05, (0x36 : Byte)].length, decode ([0xDD, 0xCB, 0x05, 0x36].take n) = .error .truncated) ∧
    (∀ n v, [0xDD, 0xCB, 0x05, (0x36 : Byte)][n]? = some v →
      Holds (wrapped 0xDD 0xCB 0x05 0x36) ((wrapped 0xDD 0xCB 0x05 0x36).pc + BitVec.ofNat 16 n) v) :=
  ⟨rfl, rfl, rfl, rfl, by decide, by decide, by decide, wrapped_holds _ _ _ _⟩

theorem witness_StepRunsDecoded :
    Alone (wrapped 0xDD 0xCB 0x05 0x06) ∧ (wrapped 0xDD 0xCB 0x05 0x06).takeInput.pins.reset = .inactive ∧
    (wrapped 0xDD 0xCB 0x05 0x06).takeInput.pins.busreqLow = false ∧ (wrapped 0xDD 0xCB 0x05 0x06).halted = false ∧
    decode [0xDD, 0xCB, 0x05, 0x06] = .ok (.rlcAtIx 0x05, []) ∧
    (∀ n v, [0xDD, 0xCB, 0x05, (0x06 : Byte)][n]? = some v →
      Holds (wrapped 0xDD 0xCB 0x05 0x06) ((wrapped 0xDD 0xCB 0x05 0x06).pc + BitVec.ofNat 16 n) v) :=
  ⟨rfl, rfl, rfl, rfl, by decide, wrapped_holds _ _ _ _⟩

theorem witness_MemoryReadAfterWrite : Memory.wf [(0x0000, 0x11), (0xFFFF, 0x22)] = true := by decide

theorem witness_DataBusReads :
    Holds (wrapped 0x34 0x12 0x56 0x78) 0xFFFF 0x12 ∧ Alone (wrapped 0x34 0x12 0x56 0x78) ∧
    Holds (wrapped 0x34 0x12 0x56 0x78) (0xFFFF + 1) 0x56 ∧
    State.kindAt { State.reset with memMap := [⟨0x4000, 0x40FF, .device⟩] } 0x40FF = .device ∧
    ({ State.reset with dataIn := [some 0x5A] } : State).dataIn = some 0x5A :: [] ∧
    (0x3410 : Word) &&& (⟨0x00FF, 0x0010, false⟩ : PortDecode).mask = (⟨0x00FF, 0x0010, false⟩ : PortDecode).value ∧
    (0x3411 : Word) &&& (⟨0x00FF, 0x0010, false⟩ : PortDecode).mask ≠ (⟨0x00FF, 0x0010, false⟩ : PortDecode).value ∧
    ({ State.reset with ioMap := [⟨0x00FF, 0x0010, false⟩] } : State).ioMap = ⟨0x00FF, 0x0010, false⟩ :: [] ∧
    State.reset.ioMap = [] :=
  ⟨holds_listed _ _ _ rfl rfl, rfl, holds_listed _ _ _ rfl rfl, by decide, rfl, by decide, by decide, rfl, rfl⟩

/-- A pop across the end of the address space (vector V21). -/
theorem witness_StackRules :
    Alone { wrapped 0x00 0xD7 0x12 0x00 with sp := 0xFFFF } ∧
    Holds { wrapped 0x00 0xD7 0x12 0x00 with sp := 0xFFFF } 0xFFFF 0xD7 ∧
    Holds { wrapped 0x00 0xD7 0x12 0x00 with sp := 0xFFFF } (0xFFFF + 1) 0x12 :=
  ⟨rfl, holds_listed _ _ _ rfl rfl, holds_listed _ _ _ rfl rfl⟩

/-- A stack across the end of the address space (vector V20). -/
theorem witness_StackRoundTrips : Alone { State.reset with sp := 0x0001 } ∧
    State.kindAt { State.reset with sp := 0x0001 } (0x0001 - 1) = .ram ∧
    State.kindAt { State.reset with sp := 0x0001 } (0x0001 - 2) = .ram := ⟨rfl, rfl, rfl⟩

theorem witness_NmiThenReturn : Alone { atNop .mode1 with nmiPending := true } ∧
    ({ atNop .mode1 with nmiPending := true } : State).nmiPending = true ∧
    State.kindAt { atNop .mode1 with nmiPending := true } (0x8000 - 1) = .ram ∧
    State.kindAt { atNop .mode1 with nmiPending := true } (0x8000 - 2) = .ram := ⟨rfl, rfl, rfl, rfl⟩

/-- Packed-BCD bytes at both ends of the range, with and without a carry. -/
theorem witness_DecimalArithmetic : PackedDecimal 0x00 ∧ PackedDecimal 0x99 := by unfold PackedDecimal; decide

theorem witness_ControlInstructions : State.reset.nmiPending = false := rfl

theorem witness_NmiAcceptance : Alone { atNop .mode1 with nmiPending := true } ∧
    ({ atNop .mode1 with nmiPending := true } : State).nmiPending = true := ⟨rfl, rfl⟩

/-- INT in mode 1, and in mode 2 with a table entry that the state after acceptance holds. -/
theorem witness_IntAcceptance :
    (Alone { atNop .mode1 with pins := intPins } ∧ (atNop .mode1).nmiPending = false ∧ intPins.intLow = true ∧
      (atNop .mode1).iff1 = true ∧ (atNop .mode1).eiShadow = false ∧ (atNop .mode1).im ≠ .mode0) ∧
    (Alone { atNop .mode2 with pins := intPins } ∧ (atNop .mode2).nmiPending = false ∧
      (atNop .mode2).iff1 = true ∧ (atNop .mode2).eiShadow = false ∧ (atNop .mode2).im ≠ .mode0) ∧
    ∃ t, State.sample { atNop .mode2 with
        mem := [(0x1000, 0x00), (0x80FF, 0x34), (0x8100, 0x12)], sp := 0x7000, i := 0x80, dataIn := [some 0xFF],
        pins := intPins } false = .next t ∧ Holds t (joinBytes 0x80 0xFF) 0x34 ∧
      Holds t (joinBytes 0x80 0xFF + 1) 0x12 :=
  ⟨⟨rfl, rfl, rfl, rfl, rfl, by decide⟩, ⟨rfl, rfl, rfl, rfl, by decide⟩,
    _, rfl, holds_listed _ _ _ rfl rfl, holds_listed _ _ _ rfl rfl⟩

/-- The first and the last restart opcode, and a byte that is none. -/
theorem witness_IntAcceptanceModeZero : ∀ v ∈ [(0xC7 : Byte), 0xFF, 0x00],
    Alone { atNop .mode0 with dataIn := [some v], pins := intPins } ∧ (atNop .mode0).nmiPending = false ∧
    intPins.intLow = true ∧ (atNop .mode0).iff1 = true ∧ (atNop .mode0).eiShadow = false ∧
    (atNop .mode0).im = .mode0 ∧
    (State.freePV { atNop .mode0 with dataIn := [some v], pins := intPins } false).external.1 = v :=
  fun _ _ => ⟨rfl, rfl, rfl, rfl, rfl, rfl, rfl⟩

/-- The halt state in RUN mode, INT at "1" and at "0", IFF1 clear and set, an NMI latched and none: each is a case of the
sampling point. -/
theorem witness_HaltRunStep : ∀ p ∈ [Pins.quiet, intPins], ∀ n f : Bool,
    Alone { State.reset with halted := true, nmiPending := n, iff1 := f, inputs := [⟨p, false, []⟩] } ∧
    (State.takeInput { State.reset with halted := true, nmiPending := n, iff1 := f, inputs := [⟨p, false, []⟩] }).pins =
      p ∧ p.reset = .inactive ∧ p.busreqLow = false ∧ p.ms1 = State.reset.pins.ms1 ∧ p.ms2 = State.reset.pins.ms2 ∧
    State.reset.clockState = .running ∧ (p.intLow = false ∨ State.reset.iff1 = false) := by
  intro p hp n f
  simp only [List.mem_cons, List.not_mem_nil, or_false] at hp
  rcases hp with rfl | rfl <;> exact ⟨rfl, rfl, rfl, rfl, rfl, rfl, rfl, Or.inr rfl⟩

/-- The halt state in IDLE1, IDLE2 and STOP mode, with INT at "1" and at "0" and a latched NMI or none, IFF1 being 0; with
BUSREQ or an INT that IFF1 forbids to come. -/
theorem witness_HaltAsleepStep : ∀ k ∈ [ClockState.idle1, .idle2, .stopped], ∀ n : Bool, ∀ p ∈ [Pins.quiet, intPins],
    Alone { State.reset with halted := true, clockState := k, nmiPending := n, pins := p } ∧ State.reset.inputs = [] ∧
    p.reset = .inactive ∧ p.intPulse = false ∧ p.busreqLow = false ∧ State.reset.busGranted = false ∧
    Pins.quiet.intLow = false ∧ intPins.intLow = true ∧ State.reset.iff1 = false ∧
    (⟨{ p with intLow := true }, false, []⟩ : StepInput).pins = { p with intLow := true } ∧
    (⟨{ p with busreqLow := true }, false, [(0x2000, 0x55)]⟩ : StepInput).pins = { p with busreqLow := true } := by
  intro k _ n p hp
  simp only [List.mem_cons, List.not_mem_nil, or_false] at hp
  rcases hp with rfl | rfl <;> exact ⟨rfl, rfl, rfl, rfl, rfl, rfl, rfl, rfl, rfl, rfl, rfl⟩

/-- Asleep with IFF1 set, INT falling in this step, a mode 2 table whose entry starts at 80FFH, and an NMI latched or
none. -/
def asleep (k : ClockState) (im : IntMode) (n : Bool) (v : Byte) : State :=
  { start [(0x80FF, 0x34), (0x8100, 0x12)] 0x1002 with
    sp := 0x7000, i := 0x80, r := 0x12, iff1 := true, iff2 := true, im := im, halted := true, clockState := k,
    nmiPending := n, dataIn := [some v], inputs := [⟨intPins, false, []⟩] }

/-- The second part of HaltAsleepStep, at each clock state and mode, and at the first restart opcode, one byte that is
none, and FFH. -/
theorem witness_HaltAsleepStep_woken : ∀ k ∈ [ClockState.idle1, .idle2, .stopped], ∀ n : Bool,
    ∀ m ∈ [IntMode.mode0, .mode1, .mode2], ∀ v ∈ [(0xC7 : Byte), 0x00, 0xFF],
    Alone (asleep k m n v) ∧ (asleep k m n v).takeInput.pins.reset = .inactive ∧ (asleep k m n v).halted = true ∧
    (asleep k m n v).clockState = k ∧ (asleep k m n v).takeInput.pins.ms1 = (asleep k m n v).pins.ms1 ∧
    (asleep k m n v).takeInput.pins.ms2 = (asleep k m n v).pins.ms2 ∧
    (asleep k m n v).takeInput.pins.busreqLow = false ∧ (asleep k m n v).takeInput.nmiPending = n ∧
    (asleep k m n v).takeInput.pins.intLow = true ∧ (asleep k m n v).takeInput.iff1 = true ∧
    (asleep k m n v).takeInput.eiShadow = false ∧ (asleep k m n v).takeInput.external.1 = v := by
  intro k _ n m _ v _
  cases n <;> exact ⟨rfl, rfl, rfl, rfl, rfl, rfl, rfl, rfl, rfl, rfl, rfl, rfl⟩

/-- The mode 2 clause: the table's entry is held after the push. -/
theorem witness_HaltAsleepStep_mode2 : ∃ t, step (asleep .idle1 .mode2 false 0xFF) = .next t ∧
    Holds t (joinBytes 0x80 0xFF) 0x34 ∧ Holds t (joinBytes 0x80 0xFF + 1) 0x12 ∧ t.pc = 0x1234 :=
  ⟨_, rfl, holds_listed _ _ _ rfl rfl, holds_listed _ _ _ rfl rfl, rfl⟩

/-- BUSREQ while an instruction would run, and in the halt state in RUN mode. -/
theorem witness_BusGrantStep : ∀ h : Bool,
    ({ State.reset with
        halted := h, inputs := [⟨{ Pins.quiet with busreqLow := true }, true, [(0x2000, 0x55)]⟩] } : State).inputs =
      ⟨{ Pins.quiet with busreqLow := true }, true, [(0x2000, 0x55)]⟩ :: [] ∧
    ({ Pins.quiet with busreqLow := true } : Pins).reset = .inactive ∧
    ({ Pins.quiet with busreqLow := true } : Pins).busreqLow = true ∧ State.reset.clockState = .running ∧
    (h = true → ({ Pins.quiet with busreqLow := true } : Pins).ms1 = State.reset.pins.ms1 ∧
      ({ Pins.quiet with busreqLow := true } : Pins).ms2 = State.reset.pins.ms2) :=
  fun _ => ⟨rfl, rfl, rfl, rfl, fun _ => ⟨rfl, rfl⟩⟩

/-- RESET while the oscillator is stopped (scenario S19), with BUSREQ at "1" and at "0". -/
theorem witness_ResetStep : ∀ q : Bool,
    ({ State.reset with
        halted := true, clockState := .stopped, inputs := [⟨{ Pins.quiet with reset := .asserted, busreqLow := q }, false, []⟩] } :
      State).inputs = ⟨{ Pins.quiet with reset := .asserted, busreqLow := q }, false, []⟩ :: [] ∧
    ({ Pins.quiet with reset := .asserted, busreqLow := q } : Pins).reset = .asserted ∧
    ({ Pins.quiet with reset := .asserted, busreqLow := q } : Pins).busreqLow = q := fun _ => ⟨rfl, rfl, rfl⟩

/-- RESET at the start of a store of two bytes, and after its first byte; and before and after an unassigned encoding has
been read. -/
theorem witness_ResetDuringStep :
    (∀ n ∈ [0, 5], (cutStore n false).inputs = ⟨{ Pins.quiet with reset := .during n false }, false, []⟩ :: [] ∧
      ({ Pins.quiet with reset := .during n false } : Pins).reset = .during n false ∧
      ∃ v, runFrom (cutStore n false) (cutStore n false).takeInput = .next v ∧
        ∃ done left, cutAt n (cyclesSince (cutStore n false) v) = (done, left)) ∧
    (∃ v, runFrom (cutUnassigned 3) (cutUnassigned 3).takeInput = .refused (.unassigned (.unassignedED 0x00)) v ∧
      (cutAt 3 (cyclesSince (cutUnassigned 3) v)).2 ≠ []) ∧
    (∃ v, runFrom (cutUnassigned 4) (cutUnassigned 4).takeInput = .refused (.unassigned (.unassignedED 0x00)) v ∧
      (cutAt 4 (cyclesSince (cutUnassigned 4) v)).2 = []) := by
  refine ⟨fun n hn => ?_, ⟨_, rfl, by decide⟩, ⟨_, rfl, by decide⟩⟩
  simp only [List.mem_cons, List.not_mem_nil, or_false] at hn
  rcases hn with rfl | rfl <;> exact ⟨rfl, rfl, _, rfl, _, _, rfl⟩

theorem witness_StateWriters : exec .ei State.reset =
    .next { State.reset with iff1 := true, iff2 := true, eiShadow := true } := rfl

theorem witness_StepKeepsInvariant : Inv (start [(0x1000, 0x00)] 0x1000) ∧
    ∃ t, step (start [(0x1000, 0x00)] 0x1000) = .next t :=
  ⟨⟨rfl, fun _ => rfl, by decide, fun _ => rfl, by decide⟩, _, rfl⟩

end Sys2Proof.Tests.Slice0
end

section
/-! PROOF. The family of spec/00_scope.md: a step fetches the bytes of an instruction, executes it and samples the
interrupts (R9); sign and zero extension, and parity (R7, R8). -/

namespace Sys2Proof

/-! The bytes of an instruction. -/

/-- CB, DD, ED or FD alone asks for one more byte. -/
theorem decode_of_isPrefixByte {b : Byte} (h : isPrefixByte b = true) : decode [b] = .error .truncated := by
  simp only [isPrefixByte, Bool.or_eq_true, beq_iff_eq] at h
  rcases h with ((rfl | rfl) | rfl) | rfl <;> rfl

/-- An instruction has at most 4 bytes (spec/30_encoding.md R110). -/
theorem length_le_four_of_decode {bytes : List Byte} {i : Instr} (h : decode bytes = .ok (i, [])) :
    bytes.length ≤ 4 := by
  by_contra hlong
  have htrunc : decode (bytes.take 4) = .error .truncated := decode_take_truncated h 4 (by omega)
  match bytes with
  | [] | [_] | [_, _] | [_, _, _] => simp at hlong
  | b0 :: b1 :: b2 :: b3 :: _ => exact decode_decided b0 b1 b2 b3 [] htrunc

end Sys2Proof

namespace Sys2Proof.Machine

/-! M1 cycles. -/

/-- How many of the bytes are opcode bytes, read with M1, where `got` has been read before them
(spec/20_memory.md R79). -/
def opcodeFetches : List Byte → List Byte → Nat
  | _, [] => 0
  | got, v :: vs => (if nextIsM1 got then 1 else 0) + opcodeFetches (got ++ [v]) vs

/-- After two bytes no further one is an opcode byte. -/
theorem opcodeFetches_of_two_le (vs got : List Byte) (h : 2 ≤ got.length) : opcodeFetches got vs = 0 := by
  induction vs generalizing got with
  | nil => rfl
  | cons v vs ih =>
    have hnext : nextIsM1 got = false := by
      match got, h with
      | _ :: _ :: _, _ => rfl
    simpa [opcodeFetches, hnext] using ih (got ++ [v]) (by simp; omega)

/-- The first byte is an opcode byte, and the second after CB, DD, ED or FD. -/
theorem opcodeFetches_cons (b : Byte) (vs : List Byte) (h : isPrefixByte b = true → vs ≠ []) :
    opcodeFetches [] (b :: vs) = if isPrefixByte b then 2 else 1 := by
  cases vs with
  | nil =>
    have hb : isPrefixByte b = false := by simpa using h
    simp [opcodeFetches, nextIsM1, hb]
  | cons v vs =>
    have hrest : opcodeFetches [b, v] vs = 0 := opcodeFetches_of_two_le vs _ (by simp)
    cases hb : isPrefixByte b <;> simp [opcodeFetches, nextIsM1, hb, hrest]

/-- The opcode bytes of an instruction are its M1 cycles. -/
theorem opcodeFetches_eq_m1Cycles {bytes : List Byte} {i : Instr} (h : decode bytes = .ok (i, [])) :
    opcodeFetches [] bytes = i.m1Cycles := by
  cases bytes with
  | nil => cases h
  | cons b vs =>
    have hm1 : i.m1Cycles = if isPrefixByte b then 2 else 1 := by
      have hfetches := decode_m1 b vs
      rw [h] at hfetches
      exact hfetches
    have hmore : isPrefixByte b = true → vs ≠ [] := by
      rintro hb rfl
      rw [decode_of_isPrefixByte hb] at h
      cases h
    rw [hm1, opcodeFetches_cons b vs hmore]

/-! The fetch. -/

/-- One address further, and then n further, is n + 1 further. -/
theorem add_one_add_ofNat (a : Word) (n : Nat) : a + 1 + BitVec.ofNat 16 n = a + BitVec.ofNat 16 (n + 1) := by
  rw [Nat.add_comm n 1, BitVec.ofNat_add, ← BitVec.add_assoc]
  rfl

/-- The bytes read are an instruction: the fetch is over. -/
theorem State.fetchFrom_of_ok {got rest : List Byte} {i : Instr} (h : decode got = .ok (i, rest)) (fuel : Nat)
    (s : State) : State.fetchFrom fuel got s = .instr i s := by
  unfold State.fetchFrom
  rw [h]

/-- The bytes read ask for one more: the fetch goes on with the next byte. -/
theorem State.fetchFrom_of_truncated {got : List Byte} (h : decode got = .error .truncated) (fuel : Nat) (s : State) :
    State.fetchFrom (fuel + 1) got s = State.fetchFrom fuel (got ++ [(s.fetchNext got).1]) (s.fetchNext got).2 := by
  rw [State.fetchFrom, h]

/-- Reading bytes that memory holds, of which each but the last leaves the decoder asking for one more, after `got`: PC
moves past them, R advances once for each opcode byte among them, and nothing else but the trace changes. -/
theorem State.fetchFrom_reads (vs got : List Byte) (fuel : Nat) (s : State)
    (htrunc : ∀ n < vs.length, decode (got ++ vs.take n) = .error .truncated) (halone : Alone s)
    (hbytes : ∀ n v, vs[n]? = some v → Holds s (s.pc + BitVec.ofNat 16 n) v) :
    ∃ t, State.fetchFrom (fuel + vs.length) got s = State.fetchFrom fuel (got ++ vs) t ∧
      t = { s with pc := s.pc + BitVec.ofNat 16 vs.length, r := Nat.iterate inc7 (opcodeFetches got vs) s.r,
                   trace := t.trace } := by
  induction vs generalizing got s with
  | nil => exact ⟨s, by simp, by simp [opcodeFetches]⟩
  | cons v vs ih =>
    have hgot : decode got = .error .truncated := by simpa using htrunc 0 (by simp)
    have htrunc' : ∀ n < vs.length, decode ((got ++ [v]) ++ vs.take n) = .error .truncated := by
      intro n hn
      simpa using htrunc (n + 1) (by simpa using hn)
    obtain ⟨hkind, hv⟩ : Holds s s.pc v := by simpa using hbytes 0 v rfl
    have hnext := State.fetchNext_known s got v halone hkind hv
    have hbytes' : ∀ n w, vs[n]? = some w → Holds s (s.pc + 1 + BitVec.ofNat 16 n) w := by
      intro n w hw
      rw [add_one_add_ofNat]
      exact hbytes (n + 1) w hw
    obtain ⟨t, hfetch, ht⟩ := ih (got ++ [v]) (s.fetchNext got).2 htrunc'
      (by rw [hnext]; exact halone) (by rw [hnext]; exact hbytes')
    refine ⟨t, ?_, ?_⟩
    · rw [List.append_assoc] at hfetch
      rw [List.length_cons, ← Nat.add_assoc, State.fetchFrom_of_truncated hgot, hnext]
      rw [hnext] at hfetch
      exact hfetch
    · rw [ht, hnext, List.length_cons, ← add_one_add_ofNat]
      cases hm1 : nextIsM1 got <;> simp [opcodeFetches, hm1, Nat.add_comm 1]

/-- The fetch of an instruction that memory holds at PC: afterwards PC is past it, and R has advanced once for each of
its M1 cycles (spec/00_scope.md R9). -/
theorem State.fetch_known {bytes : List Byte} {i : Instr} (s : State) (hdec : decode bytes = .ok (i, []))
    (halone : Alone s) (hbytes : ∀ n v, bytes[n]? = some v → Holds s (s.pc + BitVec.ofNat 16 n) v) :
    ∃ t, s.fetch = .instr i t ∧
      t = { s with pc := s.pc + BitVec.ofNat 16 bytes.length, r := Nat.iterate inc7 i.m1Cycles s.r,
                   trace := t.trace } := by
  obtain ⟨t, hreads, ht⟩ := State.fetchFrom_reads bytes [] (4 - bytes.length) s (decode_take_truncated hdec)
    halone hbytes
  rw [Nat.sub_add_cancel (length_le_four_of_decode hdec)] at hreads
  rw [opcodeFetches_eq_m1Cycles hdec] at ht
  exact ⟨t, hreads.trans (State.fetchFrom_of_ok hdec _ t), ht⟩

/-! Executing. -/

/-- Every instruction answers a next state: none can fault (spec/60_exceptions.md R450). -/
theorem exec_completes (i : Instr) (s : State) : ∃ t, exec i s = .next t := by
  cases i <;> exact ⟨_, rfl⟩

/-- A fetched instruction is executed, and then the interrupts are sampled. -/
theorem State.execute_of_exec {i : Instr} {s t : State} (h : exec i s = .next t) :
    s.execute i = t.sample (isLdAIR i) := by
  unfold State.execute
  rw [h]

/-- A step in which the MPU is to run an instruction: the inputs are taken, the bus is its own, and the instruction runs
(spec/60_exceptions.md R486). -/
theorem step_of_running (s : State) (hreset : s.takeInput.pins.reset = .inactive)
    (hbus : s.takeInput.pins.busreqLow = false) (hrun : s.halted = false) :
    step s = (State.runInstr { s.takeInput with busGranted := false }).result := by
  have hmode : modeChanged s s.takeInput = false := by simp [modeChanged, hrun]
  have hgrant : State.sleepGrant { s.takeInput with busGranted := false } s.coming =
      { s.takeInput with busGranted := false } :=
    (State.sleepGrant_after _ s.coming).2.1 hbus
  have hhalted : s.takeInput.halted = false := by rw [State.takeInput_frame]; exact hrun
  have hfrom : runFrom s s.takeInput = State.runInstr { s.takeInput with busGranted := false } := by
    unfold runFrom
    rw [hmode, hbus, hgrant]
    simp [State.advance, hhalted]
  rw [step, stepFrom, hreset, hfrom]

/-- Settles O5: the fetch finds the instruction (`State.fetch_known`), and what it finds is executed. -/
theorem stepRunsDecoded : Obligations.StepRunsDecoded := by
  intro s bytes i halone hreset hbus hrun hdec hbytes
  obtain ⟨t, hfetch, ht⟩ := State.fetch_known { s.takeInput with busGranted := false, eiShadow := false } hdec
    (by rw [State.takeInput_frame]; exact halone) (by rw [State.takeInput_frame]; exact hbytes)
  obtain ⟨u, hexec⟩ := exec_completes i t
  refine ⟨t, u, hexec, ?_, ?_⟩
  · rw [step_of_running s hreset hbus hrun, State.runInstr, hfetch]
    exact congrArg Ending.result (State.execute_of_exec hexec)
  · rw [ht, State.takeInput_frame]

/-! Extension and parity. -/

/-- parity8 is 1 exactly where the number of 1 bits is even. -/
theorem parity8_iff_evenOnes (v : Byte) : parity8 v = true ↔ EvenOnes v := by
  have hcount : onesCount v = (List.range 8).countP fun k => v.getLsbD k := by
    have hrange : List.range 8 = [0, 1, 2, 3, 4, 5, 6, 7] := rfl
    simp only [onesCount, hrange, List.countP_cons, List.countP_nil, Bool.toNat, Bool.cond_eq_ite]
    omega
  simp [parity8, EvenOnes, hcount]

theorem sext16_toInt (v : Byte) : (sext16 v).toInt = v.toInt := BitVec.toInt_signExtend_of_le (by decide)

theorem sext16_toNat (v : Byte) : (sext16 v).toNat = if v.getLsbD 7 then v.toNat + 0xFF00 else v.toNat := by
  have := v.isLt
  simp only [sext16, BitVec.toNat_signExtend, BitVec.msb_eq_getLsbD_last]
  split <;> simp <;> omega

theorem zext16_toNat (v : Byte) : (zext16 v).toNat = v.toNat := BitVec.toNat_setWidth_of_le (by decide)

/-- A signed displacement added to an address, in integers (spec/20_memory.md R85). -/
theorem add_sext16_toNat (x : Word) (d : Byte) :
    ((x + sext16 d).toNat : Int) = ((x.toNat : Int) + d.toInt) % 65536 := by
  have hcongr : d.toInt % 65536 = ((sext16 d).toNat : Int) % 65536 := by
    rw [← sext16_toInt, BitVec.toInt_eq_toNat_bmod]
    exact Int.bmod_emod
  rw [BitVec.toNat_add]
  omega

/-- Settles O10: the laws of `sext16`, `zext16` and `parity8`, and the sum with a signed displacement at IX and IY. -/
theorem extensionAndParity : Obligations.ExtensionAndParity :=
  ⟨fun v => ⟨sext16_toNat v, sext16_toInt v, zext16_toNat v, parity8_iff_evenOnes v⟩, rfl, rfl, rfl, rfl,
    fun s d => ⟨add_sext16_toNat s.ix d, add_sext16_toNat s.iy d⟩⟩

end Sys2Proof.Machine
end

section
/-! PROOF. The family of spec/10_state.md: F as a byte (R28, R29), the conditions (R36), the refresh counter (R27),
which instructions write the state that has writers of its own (R22, R26, R27, R37 to R41), and the invariant of the
machine's state, at reset and through every step (R39, R41, R43, R45, R466, R486). -/

namespace Sys2Proof.Machine

/-! F as a byte. -/

/-- Settles O11: what `FlagReg.ofByte` reads at the place of each flag, in a byte that `FlagReg.toByte` gives, is that
flag: the eight places; and the two round trips. -/
theorem flagByteLayout : Obligations.FlagByteLayout := by
  refine ⟨fun f => ?_, FlagReg.toByte_ofByte, FlagReg.ofByte_toByte⟩
  have h := FlagReg.ofByte_toByte f
  exact ⟨congrArg (·.s) h, congrArg (·.z) h, congrArg (·.f5) h, congrArg (·.h) h,
    congrArg (·.f3) h, congrArg (·.pv) h, congrArg (·.n) h, congrArg (·.c) h⟩

/-! The conditions. -/

/-- Settles O12: each code names its condition, and each of the four opcodes decodes to the jump that tests its own. -/
theorem conditionCodes : Obligations.ConditionCodes := by
  refine ⟨fun f => ⟨rfl, rfl, rfl, rfl, rfl, rfl, rfl, rfl⟩, fun s e => ?_⟩
  simp only [List.forall_mem_cons, List.not_mem_nil, false_implies, implies_true, and_true]
  exact ⟨⟨rfl, rfl⟩, ⟨rfl, rfl⟩, ⟨rfl, rfl⟩, rfl, rfl⟩

/-! The refresh counter. -/

/-- One increment of R, in integers: bits 6:0 count, and bit 7 stands above them (spec/10_state.md R27). -/
theorem inc7_toNat (r : Byte) : (inc7 r).toNat = 128 * (r.toNat / 128) + (r.toNat % 128 + 1) % 128 := by
  have hlt := r.isLt
  have hkept : r.toNat &&& 128 = 2 ^ 7 * (r.toNat / 128) := by
    rw [show (128 : Nat) = 2 ^ 7 from rfl, Nat.and_two_pow, Nat.toNat_testBit]
    omega
  have hcount : ((r.toNat + 1) % 256) &&& 127 = (r.toNat % 128 + 1) % 128 := by
    rw [show (127 : Nat) = 2 ^ 7 - 1 from rfl, Nat.and_two_pow_sub_one_eq_mod]
    omega
  have hsum : (inc7 r).toNat = (r.toNat &&& 128) ||| (((r.toNat + 1) % 256) &&& 127) := by
    simp [inc7]
  rw [hsum, hkept, hcount, ← Nat.two_pow_add_eq_or_of_lt (by omega)]

/-- The word with high byte hi and low byte lo is 256 hi + lo. -/
theorem joinBytes_eq_ofNat (hi lo : Byte) : joinBytes hi lo = BitVec.ofNat 16 (256 * hi.toNat + lo.toNat) := by
  rw [← joinBytes_toNat, BitVec.ofNat_toNat, BitVec.setWidth_eq]

/-- Settles O9: the increment in integers, and a refresh cycle with the bus the MPU's own. -/
theorem refreshCounter : Obligations.RefreshCounter := by
  refine ⟨inc7_toNat, fun s halone => ?_⟩
  rw [State.refreshCycle_after s halone, joinBytes_eq_ofNat]

/-! What an instruction may write. -/

/-- From s to t only what any instruction may write can differ: the registers A to L and F, IX, IY, SP, PC, memory, and
the model's own fields of the bus. Canonical memory stays so. -/
structure Ordinary (s t : State) : Prop where
  frame : t = { s with
    a := t.a, f := t.f, b := t.b, c := t.c, d := t.d, e := t.e, h := t.h, l := t.l, ix := t.ix, iy := t.iy,
    sp := t.sp, pc := t.pc, mem := t.mem, grants := t.grants, dataIn := t.dataIn, draws := t.draws,
    trace := t.trace }
  memWf : s.mem.wf = true → t.mem.wf = true

namespace Ordinary

variable {s t u : State}

theorem refl (s : State) : Ordinary s s := ⟨rfl, id⟩

/-- Then registers are written, and free values drawn. -/
theorem registers (h : Ordinary s t) (hu : u = { t with
    a := u.a, f := u.f, b := u.b, c := u.c, d := u.d, e := u.e, h := u.h, l := u.l, ix := u.ix, iy := u.iy,
    sp := u.sp, pc := u.pc, draws := u.draws }) : Ordinary s u := by
  refine ⟨?_, ?_⟩
  · rw [hu, h.frame]
  · rw [hu]; exact h.memWf

/-- Then a bus operation runs that keeps canonical memory. -/
theorem bus (h : Ordinary s t) (hu : OnlyBus t u) (hwf : t.mem.wf = true → u.mem.wf = true) : Ordinary s u := by
  refine ⟨?_, hwf ∘ h.memWf⟩
  rw [hu, h.frame]

/-! Each shared operation, after what is ordinary already. -/

theorem ite {p : Prop} [Decidable p] (ht : Ordinary s t) (hu : Ordinary s u) : Ordinary s (if p then t else u) := by
  split
  · exact ht
  · exact hu

theorem setFlags (h : Ordinary s t) (fl : Byte → Flags) : Ordinary s (t.setFlags fl) := h.registers rfl

theorem setReg8 (h : Ordinary s t) (r : R8) (v : Byte) : Ordinary s (t.setReg8 r v) := by
  cases r <;> exact h.registers rfl

theorem setA (h : Ordinary s t) (v : Byte) : Ordinary s { t with a := v } := h.registers rfl

theorem setB (h : Ordinary s t) (v : Byte) : Ordinary s { t with b := v } := h.registers rfl

theorem setBC (h : Ordinary s t) (v : Word) : Ordinary s (t.setBC v) := h.registers rfl

theorem setDE (h : Ordinary s t) (v : Word) : Ordinary s (t.setDE v) := h.registers rfl

theorem setHL (h : Ordinary s t) (v : Word) : Ordinary s (t.setHL v) := h.registers rfl

theorem setRegDD (h : Ordinary s t) (p : RegDD) (v : Word) : Ordinary s (t.setRegDD p v) := by
  cases p <;> exact h.registers rfl

theorem setRegQQ (h : Ordinary s t) (p : RegQQ) (v : Word) : Ordinary s (t.setRegQQ p v) := by
  cases p <;> exact h.registers rfl

theorem readByte (h : Ordinary s t) (x : Word) : Ordinary s (t.readByte x).2 :=
  h.bus (t.readByte_onlyBus x) (t.readByte_wf x)

theorem writeByte (h : Ordinary s t) (x : Word) (v : Byte) : Ordinary s (t.writeByte x v) :=
  h.bus (t.writeByte_onlyBus x v) (t.writeByte_wf x v)

theorem readWord (h : Ordinary s t) (x : Word) : Ordinary s (t.readWord x).2 :=
  h.bus (t.readWord_onlyBus x) (t.readWord_wf x)

theorem writeWord (h : Ordinary s t) (x v : Word) : Ordinary s (t.writeWord x v) :=
  h.bus (t.writeWord_onlyBus x v) (t.writeWord_wf x v)

theorem modifyByte (h : Ordinary s t) (x : Word) (g : Byte → Byte) : Ordinary s (t.modifyByte x g) :=
  h.bus (t.modifyByte_onlyBus x g) (t.modifyByte_wf x g)

theorem ioRead (h : Ordinary s t) (x : Word) : Ordinary s (t.ioRead x).2 :=
  h.bus (t.ioRead_onlyBus x) (t.ioRead_wf x)

theorem ioWrite (h : Ordinary s t) (x : Word) (v : Byte) : Ordinary s (t.ioWrite x v) :=
  h.bus (t.ioWrite_onlyBus x v) (t.ioWrite_wf x v)

theorem push16 (h : Ordinary s t) (v : Word) : Ordinary s (t.push16 v) :=
  (h.registers (u := { t with sp := t.sp - 2 }) rfl).bus (t.push16_onlyBus v) (t.push16_wf v)

theorem pop16 (h : Ordinary s t) : Ordinary s t.pop16.2 :=
  (h.registers (u := { t with sp := t.sp + 2 }) rfl).bus t.pop16_onlyBus t.pop16_wf

theorem callTo (h : Ordinary s t) (x : Word) : Ordinary s (t.callTo x) := (h.push16 t.pc).registers rfl

theorem returnPop (h : Ordinary s t) : Ordinary s t.returnPop := h.pop16.registers rfl

theorem accResult (h : Ordinary s t) (r : Byte × Flags) : Ordinary s (t.accResult r) := h.registers rfl

theorem compareAcc (h : Ordinary s t) (r : Byte × Flags) : Ordinary s (t.compareAcc r) := h.registers rfl

theorem rotateAcc (h : Ordinary s t) (r : Byte × Bool) : Ordinary s (t.rotateAcc r) := h.registers rfl

theorem stepByte (h : Ordinary s t) (x : Word) (op : Byte → Byte × Flags) : Ordinary s (t.stepByte x op) :=
  (h.modifyByte _ _).setFlags _

theorem shiftByte (h : Ordinary s t) (x : Word) (op : Byte → Byte × Bool) : Ordinary s (t.shiftByte x op) :=
  (h.modifyByte _ _).setFlags _

theorem rotateDigits (h : Ordinary s t) (mem : Byte → Byte) (low : Byte → BitVec 4) :
    Ordinary s (t.rotateDigits mem low) := by
  unfold State.rotateDigits
  exact ((h.modifyByte _ _).setA _).setFlags _

theorem repeatUnless (h : Ordinary s t) (done : Bool) : Ordinary s (t.repeatUnless done) := by
  cases done
  · exact h.registers rfl
  · exact h

theorem blockTransfer (h : Ordinary s t) (k : Word) : Ordinary s (t.blockTransfer k) := by
  unfold State.blockTransfer
  exact (((((h.readByte _).writeByte _ _).setHL _).setDE _).setBC _).setFlags _

theorem blockSearch (h : Ordinary s t) (k : Word) : Ordinary s (t.blockSearch k) := by
  unfold State.blockSearch
  exact (((h.readByte _).setHL _).setBC _).setFlags _

theorem blockInput (h : Ordinary s t) (k : Word) : Ordinary s (t.blockInput k) := by
  unfold State.blockInput
  exact ((((h.ioRead _).writeByte _ _).setB _).setHL _).setFlags _

theorem blockOutput (h : Ordinary s t) (k : Word) : Ordinary s (t.blockOutput k) := by
  unfold State.blockOutput
  exact ((((h.readByte _).setB _).ioWrite _ _).setHL _).setFlags _

theorem exchangeTop (h : Ordinary s t) (v : Word) : Ordinary s (t.exchangeTop v).2 :=
  ((h.readWord t.sp).writeByte (t.sp + 1) (hiByte v)).writeByte t.sp (loByte v)

end Ordinary

/-- What an instruction does to the state that has writers of its own: each constructor but the first is one of its
writers, with what it writes (spec/10_state.md R22, R26, R27, R37 to R41). -/
inductive Effect (s : State) : Instr → State → Prop where
  | ordinary (i : Instr) {t : State} (h : Ordinary s t) : Effect s i t
  | ldIA : Effect s .ldIA { s with i := s.a }
  | ldRA : Effect s .ldRA { s with r := s.a }
  | im0 : Effect s .im0 { s with im := .mode0 }
  | im1 : Effect s .im1 { s with im := .mode1 }
  | im2 : Effect s .im2 { s with im := .mode2 }
  | di : Effect s .di { s with iff1 := false, iff2 := false }
  | ei : Effect s .ei { s with iff1 := true, iff2 := true, eiShadow := true }
  | retn (v : Bool) {t : State} (h : Ordinary s t) : Effect s .retn { t with iff1 := v }
  | reti (v : Bool) {t : State} (h : Ordinary s t) : Effect s .reti { t with iff1 := v }
  | halt : Effect s .halt { s with halted := true, clockState := haltClock s.pins.ms1 s.pins.ms2 }
  | exAf : Effect s .exAf { s with a := s.aAlt, f := s.fAlt, aAlt := s.a, fAlt := s.f }
  | exx : Effect s .exx { s with
      b := s.bAlt, c := s.cAlt, d := s.dAlt, e := s.eAlt, h := s.hAlt, l := s.lAlt,
      bAlt := s.b, cAlt := s.c, dAlt := s.d, eAlt := s.e, hAlt := s.h, lAlt := s.l }

/-- The return of RETI is ordinary but for IFF1. -/
theorem State.returnFromInt_eq (s : State) :
    ∃ (t : State) (v : Bool), Ordinary s t ∧ s.returnFromInt = { t with iff1 := v } := by
  have hpop : Ordinary s s.returnPop := (Ordinary.refl s).returnPop
  unfold State.returnFromInt
  dsimp only
  split
  · exact ⟨_, s.returnPop.iff1, hpop, rfl⟩
  · exact ⟨s.returnPop.draw.2, s.returnPop.draw.1.getLsbD 0, hpop.registers rfl, rfl⟩

/-- Every instruction completes, and does to the state that has writers of its own what `Effect` says: the split is over
the instructions, grouped by the shared operation that does their work. -/
theorem exec_effect (i : Instr) (s : State) : ∃ t, exec i s = .next t ∧ Effect s i t := by
  have hs : Ordinary s s := .refl s
  cases i
  -- the writers
  case ldIA => exact ⟨_, rfl, .ldIA⟩
  case ldRA => exact ⟨_, rfl, .ldRA⟩
  case im0 => exact ⟨_, rfl, .im0⟩
  case im1 => exact ⟨_, rfl, .im1⟩
  case im2 => exact ⟨_, rfl, .im2⟩
  case di => exact ⟨_, rfl, .di⟩
  case ei => exact ⟨_, rfl, .ei⟩
  case retn => exact ⟨_, rfl, .retn _ hs.returnPop⟩
  case reti =>
    obtain ⟨t, v, ht, heq⟩ := s.returnFromInt_eq
    exact ⟨_, congrArg Host.Outcome.next heq, .reti v ht⟩
  case halt => exact ⟨_, rfl, .halt⟩
  case exAf => exact ⟨_, rfl, .exAf⟩
  case exx => exact ⟨_, rfl, .exx⟩
  -- registers alone
  case ldAI | ldAR | ldIxNn | ldIyNn | ldSpHl | ldSpIx | ldSpIy | exDeHl | daa | cpl | ccf | scf | nop | addHlSs
      | adcHlSs | sbcHlSs | addIxPp | addIyRr | incIx | incIy | decIx | decIy | bitBR | jpNn | jrE | jpHl | jpIx | jpIy =>
    exact ⟨_, rfl, .ordinary _ (hs.registers rfl)⟩
  case addAR | addAN | adcAR | adcAN | subR | subN | sbcAR | sbcAN | andR | andN | xorR | xorN | orR | orN | neg =>
    exact ⟨_, rfl, .ordinary _ (hs.accResult _)⟩
  case cpR | cpN => exact ⟨_, rfl, .ordinary _ (hs.compareAcc _)⟩
  case rlca | rla | rrca | rra => exact ⟨_, rfl, .ordinary _ (hs.rotateAcc _)⟩
  case ldRR | ldRN | setBR | resBR => exact ⟨_, rfl, .ordinary _ (hs.setReg8 _ _)⟩
  case incR | decR | rlcR | rrcR | rlR | rrR | slaR | sraR | srlR =>
    exact ⟨_, rfl, .ordinary _ ((hs.setReg8 _ _).setFlags _)⟩
  case ldDdNn | incSs | decSs => exact ⟨_, rfl, .ordinary _ (hs.setRegDD _ _)⟩
  case jpCcNn | jrCE | jrNcE | jrZE | jrNzE => exact ⟨_, rfl, .ordinary _ (.ite (hs.registers rfl) hs)⟩
  case djnzE => exact ⟨_, rfl, .ordinary _ (.ite (hs.registers rfl) (hs.registers rfl))⟩
  -- a byte of memory
  case ldRAtHl | ldRAtIx | ldRAtIy => exact ⟨_, rfl, .ordinary _ ((hs.readByte _).setReg8 _ _)⟩
  case ldAAtBc | ldAAtDe | ldAAtNn => exact ⟨_, rfl, .ordinary _ ((hs.readByte _).setA _)⟩
  case addAAtHl | addAAtIx | addAAtIy | adcAAtHl | adcAAtIx | adcAAtIy | subAtHl | subAtIx | subAtIy
      | sbcAAtHl | sbcAAtIx | sbcAAtIy | andAtHl | andAtIx | andAtIy | xorAtHl | xorAtIx | xorAtIy
      | orAtHl | orAtIx | orAtIy =>
    exact ⟨_, rfl, .ordinary _ ((hs.readByte _).accResult _)⟩
  case cpAtHl | cpAtIx | cpAtIy => exact ⟨_, rfl, .ordinary _ ((hs.readByte _).compareAcc _)⟩
  case bitBAtHl | bitBAtIx | bitBAtIy => exact ⟨_, rfl, .ordinary _ ((hs.readByte _).setFlags _)⟩
  case ldAtHlR | ldAtIxR | ldAtIyR | ldAtHlN | ldAtIxN | ldAtIyN | ldAtBcA | ldAtDeA | ldAtNnA =>
    exact ⟨_, rfl, .ordinary _ (hs.writeByte _ _)⟩
  case setBAtHl | setBAtIx | setBAtIy | resBAtHl | resBAtIx | resBAtIy =>
    exact ⟨_, rfl, .ordinary _ (hs.modifyByte _ _)⟩
  case incAtHl | incAtIx | incAtIy | decAtHl | decAtIx | decAtIy => exact ⟨_, rfl, .ordinary _ (hs.stepByte _ _)⟩
  case rlcAtHl | rlcAtIx | rlcAtIy | rrcAtHl | rrcAtIx | rrcAtIy | rlAtHl | rlAtIx | rlAtIy | rrAtHl | rrAtIx | rrAtIy
      | slaAtHl | slaAtIx | slaAtIy | sraAtHl | sraAtIx | sraAtIy | srlAtHl | srlAtIx | srlAtIy =>
    exact ⟨_, rfl, .ordinary _ (hs.shiftByte _ _)⟩
  case rld | rrd => exact ⟨_, rfl, .ordinary _ (hs.rotateDigits _ _)⟩
  -- a word of memory, and the stack
  case ldHlAtNn | ldIxAtNn | ldIyAtNn => exact ⟨_, rfl, .ordinary _ ((hs.readWord _).registers rfl)⟩
  case ldDdAtNn => exact ⟨_, rfl, .ordinary _ ((hs.readWord _).setRegDD _ _)⟩
  case ldAtNnHl | ldAtNnDd | ldAtNnIx | ldAtNnIy => exact ⟨_, rfl, .ordinary _ (hs.writeWord _ _)⟩
  case pushQq | pushIx | pushIy => exact ⟨_, rfl, .ordinary _ (hs.push16 _)⟩
  case popQq => exact ⟨_, rfl, .ordinary _ (hs.pop16.setRegQQ _ _)⟩
  case popIx | popIy => exact ⟨_, rfl, .ordinary _ (hs.pop16.registers rfl)⟩
  case exSpHl => exact ⟨_, rfl, .ordinary _ ((hs.exchangeTop _).setHL _)⟩
  case exSpIx => exact ⟨_, rfl, .ordinary _ ((hs.exchangeTop s.ix).registers rfl)⟩
  case exSpIy => exact ⟨_, rfl, .ordinary _ ((hs.exchangeTop s.iy).registers rfl)⟩
  case callNn | rstP => exact ⟨_, rfl, .ordinary _ (hs.callTo _)⟩
  case callCcNn => exact ⟨_, rfl, .ordinary _ (.ite (hs.callTo _) hs)⟩
  case ret => exact ⟨_, rfl, .ordinary _ hs.returnPop⟩
  case retCc => exact ⟨_, rfl, .ordinary _ (.ite hs.returnPop hs)⟩
  -- the block instructions, and the ports
  case ldi | ldd => exact ⟨_, rfl, .ordinary _ (hs.blockTransfer _)⟩
  case ldir | lddr => exact ⟨_, rfl, .ordinary _ ((hs.blockTransfer _).repeatUnless _)⟩
  case cpi | cpd => exact ⟨_, rfl, .ordinary _ (hs.blockSearch _)⟩
  case cpir | cpdr => exact ⟨_, rfl, .ordinary _ ((hs.blockSearch _).repeatUnless _)⟩
  case ini | ind => exact ⟨_, rfl, .ordinary _ (hs.blockInput _)⟩
  case inir | indr => exact ⟨_, rfl, .ordinary _ ((hs.blockInput _).repeatUnless _)⟩
  case outi | outd => exact ⟨_, rfl, .ordinary _ (hs.blockOutput _)⟩
  case otir | otdr => exact ⟨_, rfl, .ordinary _ ((hs.blockOutput _).repeatUnless _)⟩
  case inAN => exact ⟨_, rfl, .ordinary _ ((hs.ioRead _).registers rfl)⟩
  case inRC => exact ⟨_, rfl, .ordinary _ (((hs.ioRead _).setReg8 _ _).setFlags _)⟩
  case outNA | outCR => exact ⟨_, rfl, .ordinary _ (hs.ioWrite _ _)⟩

/-- What an instruction that has completed did. -/
theorem effect_of_exec {i : Instr} {s t : State} (h : exec i s = .next t) : Effect s i t := by
  obtain ⟨u, hu, heffect⟩ := exec_effect i s
  cases hu.symm.trans h
  exact heffect

/-- Settles O58: by the cases of `Effect`; each writer writes what is its own, and an ordinary effect none of it. -/
theorem stateWriters : Obligations.StateWriters := by
  intro i s t hexec
  cases effect_of_exec hexec with
  | ordinary _ h => rw [h.frame]; simp
  | retn _ h | reti _ h => rw [h.frame]; simp
  | ldIA | ldRA | im0 | im1 | im2 | di | ei | halt | exAf | exx => simp

/-! The invariant. -/

/-- From s to t nothing that `Inv` speaks of changes but memory, and canonical memory stays so. -/
structure KeepsControl (s t : State) : Prop where
  halted : t.halted = s.halted
  clockState : t.clockState = s.clockState
  busGranted : t.busGranted = s.busGranted
  eiShadow : t.eiShadow = s.eiShadow
  iff2 : t.iff2 = s.iff2
  memWf : s.mem.wf = true → t.mem.wf = true

theorem KeepsControl.trans {s t u : State} (h : KeepsControl s t) (k : KeepsControl t u) : KeepsControl s u :=
  ⟨k.halted.trans h.halted, k.clockState.trans h.clockState, k.busGranted.trans h.busGranted,
    k.eiShadow.trans h.eiShadow, k.iff2.trans h.iff2, k.memWf ∘ h.memWf⟩

theorem KeepsControl.refl (s : State) : KeepsControl s s := ⟨rfl, rfl, rfl, rfl, rfl, id⟩

theorem Ordinary.keepsControl {s t : State} (h : Ordinary s t) : KeepsControl s t := by
  refine ⟨?_, ?_, ?_, ?_, ?_, h.memWf⟩ <;> rw [h.frame]

theorem Inv.of_keepsControl {s t : State} (h : Inv s) (k : KeepsControl s t) : Inv t where
  memWf := k.memWf h.memWf
  runs := by rw [k.halted, k.clockState]; exact h.runs
  notWarming := by rw [k.clockState]; exact h.notWarming
  grantRuns := by rw [k.busGranted, k.clockState]; exact h.grantRuns
  shadow := by rw [k.eiShadow, k.iff2, k.halted]; exact h.shadow

/-- `Inv`, in a step in which the MPU has the bus: its clock may stop and start. -/
structure InvOnBus (s : State) : Prop extends Inv s where
  ownsBus : s.busGranted = false

theorem InvOnBus.of_keepsControl {s t : State} (h : InvOnBus s) (k : KeepsControl s t) : InvOnBus t :=
  ⟨h.toInv.of_keepsControl k, k.busGranted.trans h.ownsBus⟩

/-- Running and with the bus its own, the MPU need only mind memory and ei_shadow. -/
theorem InvOnBus.of_running {s : State} (hwf : s.mem.wf = true) (hclock : s.clockState = .running)
    (hbus : s.busGranted = false) (hshadow : s.eiShadow = true → s.iff2 = true ∧ s.halted = false) : InvOnBus s where
  memWf := hwf
  runs _ := hclock
  notWarming := by simp [hclock]
  grantRuns _ := hclock
  shadow := hshadow
  ownsBus := hbus

/-! The pieces of a step that leave the control state. -/

theorem State.takeInput_keepsControl (s : State) : KeepsControl s s.takeInput := by
  rw [State.takeInput_frame]; exact ⟨rfl, rfl, rfl, rfl, rfl, id⟩

theorem State.emit_keepsControl (s : State) (x : BusCycle) : KeepsControl s (s.emit x) :=
  ⟨rfl, rfl, rfl, rfl, rfl, id⟩

theorem State.refreshCycle_keepsControl (s : State) : KeepsControl s s.refreshCycle :=
  ⟨by simp, by simp, by simp, by simp, by simp, s.refreshCycle_wf⟩

theorem State.fetchNext_keepsControl (s : State) (got : List Byte) : KeepsControl s (s.fetchNext got).2 := by
  unfold State.fetchNext
  split
  · exact ⟨by simp, by simp, by simp, by simp, by simp, s.fetchM1_wf⟩
  · exact ⟨by simp, by simp, by simp, by simp, by simp, s.fetchOperand_wf⟩

/-- A fetch that finds an instruction has only read bytes. -/
theorem State.fetchFrom_keepsControl {fuel : Nat} {got : List Byte} {s t : State} {i : Instr}
    (h : State.fetchFrom fuel got s = .instr i t) : KeepsControl s t := by
  induction fuel generalizing got s with
  | zero =>
    unfold State.fetchFrom at h
    split at h <;> cases h
    exact .refl _
  | succ n ih =>
    unfold State.fetchFrom at h
    split at h
    case h_1 => cases h; exact .refl _
    case h_2 => exact (s.fetchNext_keepsControl got).trans (ih h)
    case h_3 => cases h

theorem State.ackCycle_keepsControl (s : State) : KeepsControl s s.ackCycle.2 := by
  have hbyte : Ordinary s s.external.2 := (Ordinary.refl s).bus s.external_onlyBus (by simp)
  exact (hbyte.keepsControl.trans (State.emit_keepsControl _ _)).trans (State.refreshCycle_keepsControl _)

theorem State.freePV_keepsControl (s : State) (b : Bool) : KeepsControl s (s.freePV b) := by
  rw [(s.freePV_after b).1]; exact ⟨rfl, rfl, rfl, rfl, rfl, id⟩

theorem State.freeCount_keepsControl (s : State) (stayed : Bool) : KeepsControl s (s.freeCount stayed) := by
  rw [(s.freeCount_after stayed).1]; exact ⟨rfl, rfl, rfl, rfl, rfl, id⟩

/-- Where the bus is granted in a step with the clock stopped, memory is still canonical. -/
theorem State.sleepGrant_wf (s : State) (ws : List (Word × Byte)) (h : s.mem.wf = true) :
    (s.sleepGrant ws).mem.wf = true := by
  obtain ⟨-, hhigh, hlow⟩ := s.sleepGrant_after ws
  cases hbus : s.pins.busreqLow with
  | false => rw [hhigh hbus]; exact h
  | true =>
    have hmem := hlow hbus
    split at hmem
    · rw [hmem.1]; exact s.storeAll_wf ws h
    · rw [hmem.1]; exact h

theorem State.sleepGrant_keepsControl (s : State) (ws : List (Word × Byte)) : KeepsControl s (s.sleepGrant ws) := by
  have hframe := (s.sleepGrant_after ws).1
  refine ⟨?_, ?_, ?_, ?_, ?_, s.sleepGrant_wf ws⟩ <;> rw [hframe]

/-! The sampling point. -/

/-- An NMI leaves the halt state; IFF2 keeps its value, and so does ei_shadow (spec/60_exceptions.md R453). -/
theorem State.acceptNMI_inv (s : State) (h : InvOnBus s) : InvOnBus s.acceptNMI := by
  have hawake : InvOnBus { s.unhalt with nmiPending := false, iff1 := false } :=
    .of_running h.memWf rfl h.ownsBus fun he => ⟨(h.shadow he).1, rfl⟩
  unfold State.acceptNMI
  exact ((hawake.of_keepsControl (State.emit_keepsControl _ _)).of_keepsControl
    (State.refreshCycle_keepsControl _)).of_keepsControl ((Ordinary.refl _).callTo 0x0066).keepsControl

/-- An accepted INT leaves the halt state; no EI has just run (spec/60_exceptions.md R454, R455). -/
theorem State.acceptINT_inv {s t : State} (h : InvOnBus s) (hshadow : s.eiShadow = false)
    (haccept : s.acceptINT = .next t) : InvOnBus t := by
  have hawake : InvOnBus { s.unhalt with iff1 := false, iff2 := false } :=
    .of_running h.memWf rfl h.ownsBus fun he => absurd (hshadow.symm.trans he) nofun
  have hack := hawake.of_keepsControl (State.ackCycle_keepsControl _)
  have hcall := fun target => hack.of_keepsControl ((Ordinary.refl _).callTo target).keepsControl
  unfold State.acceptINT at haccept
  dsimp only at haccept
  split at haccept
  case h_1 =>
    split at haccept <;> cases haccept
    exact hcall _
  case h_2 => cases haccept; exact hcall _
  case h_3 =>
    cases haccept
    exact hack.of_keepsControl ((((Ordinary.refl _).push16 _).readWord _).registers rfl).keepsControl

theorem State.sample_inv {s t : State} {b : Bool} (h : InvOnBus s) (hsample : s.sample b = .next t) : InvOnBus t := by
  have hpv : InvOnBus (s.freePV b) := h.of_keepsControl (s.freePV_keepsControl b)
  unfold State.sample at hsample
  split at hsample
  case isTrue => cases hsample; exact State.acceptNMI_inv _ hpv
  case isFalse =>
    split at hsample
    case isTrue hint =>
      have hshadow : (s.freePV b).eiShadow = false := by
        rw [(s.freePV_keepsControl b).eiShadow]; simp_all
      exact State.acceptINT_inv hpv hshadow hsample
    case isFalse => cases hsample; exact h

/-! An instruction, and the halt state. -/

theorem haltClock_ne_warmingUp (ms1 ms2 : Bool) : haltClock ms1 ms2 ≠ .warmingUp := by
  cases ms1 <;> cases ms2 <;> decide

/-- An instruction keeps the invariant: EI sets ei_shadow with IFF2, out of the halt state; DI resets IFF2 where
ei_shadow is 0; HALT stops the clock in the halt state it enters; no other writes what `Inv` speaks of but memory. -/
theorem exec_inv {i : Instr} {s t : State} (h : InvOnBus s) (hrun : s.halted = false) (hshadow : s.eiShadow = false)
    (hexec : exec i s = .next t) : InvOnBus t := by
  have hnone : s.eiShadow = true → False := by simp [hshadow]
  cases effect_of_exec hexec with
  | ordinary _ ho => exact h.of_keepsControl ho.keepsControl
  | retn _ ho | reti _ ho => exact h.of_keepsControl (ho.keepsControl.trans ⟨rfl, rfl, rfl, rfl, rfl, id⟩)
  | ldIA | ldRA | im0 | im1 | im2 | exAf | exx => exact h.of_keepsControl ⟨rfl, rfl, rfl, rfl, rfl, id⟩
  | ei => exact .of_running h.memWf (h.runs hrun) h.ownsBus fun _ => ⟨rfl, hrun⟩
  | di => exact .of_running h.memWf (h.runs hrun) h.ownsBus fun he => (hnone he).elim
  | halt =>
    exact ⟨⟨h.memWf, nofun, haltClock_ne_warmingUp _ _, fun hg => absurd (h.ownsBus.symm.trans hg) nofun,
      fun he => (hnone he).elim⟩, h.ownsBus⟩

theorem State.execute_inv {i : Instr} {s t : State} (h : InvOnBus s) (hrun : s.halted = false)
    (hshadow : s.eiShadow = false) (hexec : s.execute i = .next t) : InvOnBus t := by
  obtain ⟨u, hu⟩ := exec_completes i s
  rw [State.execute_of_exec hu] at hexec
  exact State.sample_inv (exec_inv h hrun hshadow hu) hexec

theorem State.runInstr_inv {s t : State} (h : InvOnBus s) (hrun : s.halted = false) (hstep : s.runInstr = .next t) :
    InvOnBus t := by
  have hstart : InvOnBus { s with eiShadow := false } := .of_running h.memWf (h.runs hrun) h.ownsBus nofun
  unfold State.runInstr at hstep
  split at hstep
  case h_1 => cases hstep
  case h_2 i u hfetch =>
    have hkeeps := State.fetchFrom_keepsControl hfetch
    exact State.execute_inv (hstart.of_keepsControl hkeeps) (hkeeps.halted.trans hrun) hkeeps.eiShadow hstep

theorem State.haltNop_inv {s t : State} (h : InvOnBus s) (hstep : s.haltNop = .next t) : InvOnBus t :=
  State.sample_inv
    (h.of_keepsControl ((State.emit_keepsControl s _).trans (State.refreshCycle_keepsControl _))) hstep

/-- The clock that stops again is in the mode it had, still in the halt state. -/
theorem sleepAgain_inv {saved : ClockState} {e : Ending} {t : State} (hsaved : saved ≠ .warmingUp)
    (he : ∀ u, e = .next u → InvOnBus u) (hsleep : sleepAgain saved e = .next t) : InvOnBus t := by
  cases e with
  | fault | refused => cases hsleep
  | next u =>
    have hu := he u rfl
    cases hsleep
    split
    case isTrue hhalted =>
      exact ⟨⟨hu.memWf, fun hn => absurd (hhalted.symm.trans hn) nofun, hsaved,
        fun hg => absurd (hu.ownsBus.symm.trans hg) nofun, hu.shadow⟩, hu.ownsBus⟩
    case isFalse => exact hu

theorem State.haltAsleep_inv {s t : State} {b : Bool} (h : InvOnBus s) (hstep : s.haltAsleep b = .next t) :
    InvOnBus t := by
  unfold State.haltAsleep at hstep
  split at hstep
  case isTrue =>
    have hcount := h.of_keepsControl (s.freeCount_keepsControl (s.intStayed b))
    have hawake : InvOnBus { s.freeCount (s.intStayed b) with clockState := .running } :=
      .of_running hcount.memWf rfl hcount.ownsBus hcount.shadow
    exact sleepAgain_inv h.notWarming (fun u hu => State.haltNop_inv hawake hu) hstep
  case isFalse => cases hstep; exact h

theorem State.advance_inv {s t : State} {b : Bool} (h : InvOnBus s) (hstep : s.advance b = .next t) : InvOnBus t := by
  unfold State.advance at hstep
  split at hstep
  case isTrue =>
    split at hstep
    case h_1 => exact State.haltNop_inv h hstep
    all_goals exact State.haltAsleep_inv h hstep
  case isFalse hrun => exact State.runInstr_inv h (by simpa using hrun) hstep

/-! Reset, and the bus grant. -/

theorem State.applyReset_inv (s : State) (h : s.mem.wf = true) : Inv s.applyReset :=
  ⟨h, fun _ => rfl, nofun, fun _ => rfl, nofun⟩

theorem State.grantBus_inv (s : State) (ws : List (Word × Byte)) (h : Inv s) (hclock : s.clockState = .running) :
    Inv (s.grantBus ws) := by
  rw [State.grantBus_after]
  exact ⟨s.storeAll_wf ws h.memWf, fun _ => hclock, h.notWarming, fun _ => hclock, h.shadow⟩

theorem State.resetStep_inv (s : State) (ws : List (Word × Byte)) (h : s.mem.wf = true) : Inv (s.resetStep ws) := by
  have hreset := s.applyReset_inv h
  unfold State.resetStep
  split
  · exact State.grantBus_inv _ ws hreset rfl
  · exact hreset

theorem State.abandon_inv (s v : State) (n : Nat) (corrupts : Bool) (h : s.mem.wf = true) :
    Inv (s.abandon v n corrupts) :=
  State.applyReset_inv _ (State.storeAll_wf _ _ h)

/-- A step that RESET cuts and that ends in a next state is abandoned. -/
theorem cutShort_next {s t : State} {n : Nat} {corrupts : Bool} {e : Ending} (h : cutShort s n corrupts e = .next t) :
    t = s.abandon e.reached n corrupts := by
  unfold cutShort at h
  split at h <;> cases h
  rfl

/-! The step. -/

theorem Ending.result_next {e : Ending} {t : State} (h : e.result = .next t) : e = .next t := by
  cases e <;> cases h
  rfl

theorem runFrom_inv {s u t : State} (h : Inv u) (hstep : runFrom s u = .next t) : Inv t := by
  unfold runFrom at hstep
  split at hstep
  case isTrue => cases hstep
  case isFalse =>
    split at hstep
    case isTrue hgrant =>
      cases hstep
      exact State.grantBus_inv u s.coming h (by simp_all)
    case isFalse =>
      have hown : InvOnBus { u with busGranted := false } := ⟨⟨h.memWf, h.runs, h.notWarming, nofun, h.shadow⟩, rfl⟩
      exact (State.advance_inv (hown.of_keepsControl (State.sleepGrant_keepsControl _ _)) hstep).toInv

/-- Settles O59, by what the RESET pin does in the step: a pulse that is too short is a fault; RESET at the start, or
in the middle of the step, leaves the control state of Reset(); otherwise the MPU runs (`runFrom_inv`). -/
theorem stepKeepsInvariant : Obligations.StepKeepsInvariant := by
  intro s t h hstep
  have htaken : Inv s.takeInput := h.of_keepsControl s.takeInput_keepsControl
  unfold step stepFrom at hstep
  split at hstep
  case h_1 => cases hstep
  case h_2 =>
    cases hstep
    exact State.resetStep_inv _ _ htaken.memWf
  case h_3 n corrupts _ => rw [cutShort_next hstep]; exact State.abandon_inv _ _ _ _ htaken.memWf
  case h_4 => exact runFrom_inv htaken (Ending.result_next hstep)

/-- Settles O60: the values of Table R48. -/
theorem resetHasInvariant : Obligations.ResetHasInvariant :=
  ⟨State.reset_wf, fun _ => rfl, nofun, fun _ => rfl, nofun⟩

end Sys2Proof.Machine
end

section
/-! PROOF. The family of spec/20_memory.md: memory as data (R70; log entry 1), the data bus in read and input cycles
(R72, R74, R77, R84), the stack (R75, R76), and what a push and a pop, or a call and a return, give back. -/

namespace Sys2Proof.Machine

/-! Memory as data. -/

/-- Settles O6: the laws of `Memory.store`; addresses are equal where their numbers are. -/
theorem memoryReadAfterWrite : Obligations.MemoryReadAfterWrite := by
  refine ⟨fun m a b v => ?_, Memory.wf_store, fun m n => Memory.ext_of_rises m n 0⟩
  simp only [Memory.byteAt_store, BitVec.toNat_inj]

/-! The data bus. -/

/-- The next byte the outside supplies is taken off its queue. -/
theorem State.external_of_some {s : State} {v : Byte} {rest : List (Option Byte)} (h : s.dataIn = some v :: rest) :
    s.external = (v, { s with dataIn := rest }) := by
  unfold State.external
  rw [h]

theorem State.dataAt_device {s : State} {a : Word} (h : s.kindAt a = .device) : s.dataAt a = s.external := by
  unfold State.dataAt
  rw [h]

/-- An I/O map with an entry at its head: the entry speaks for the port addresses it decodes, the rest of the map for
the others. -/
theorem portAnswersIn_cons (g : PortDecode) (gs : List PortDecode) (p : Word) :
    portAnswersIn (g :: gs) p = if p &&& g.mask = g.value then g.answers else portAnswersIn gs p := rfl

theorem State.portAnswers_of_ioMap {s : State} {gs : List PortDecode} (h : s.ioMap = gs) (p : Word) :
    s.portAnswers p = portAnswersIn gs p := by
  unfold State.portAnswers
  rw [h]

/-- A word read where memory holds both bytes: the low one first (spec/20_memory.md R72, R74). -/
theorem State.readWord_known {s : State} {a : Word} {lo hi : Byte} (halone : Alone s) (hlo : Holds s a lo)
    (hhi : Holds s (a + 1) hi) :
    s.readWord a = (joinBytes hi lo, { s with trace := .memRead (a + 1) hi :: .memRead a lo :: s.trace }) := by
  have hfirst := State.readByte_known s a lo halone hlo.1 hlo.2
  have hsecond := State.readByte_known { s with trace := .memRead a lo :: s.trace } (a + 1) hi halone hhi.1 hhi.2
  simp only [State.readWord, hfirst, hsecond]

/-- Settles O7: each read by what stands at its address, and the I/O map by its first entry. -/
theorem dataBusReads : Obligations.DataBusReads := by
  refine ⟨fun s a v h => State.dataAt_known s a v h.1 h.2, fun s a => State.dataAt_device,
    fun s v rest => State.external_of_some, fun s p => rfl, fun s g gs p hmap hdec => ?_,
    fun s g gs p hmap hdec => ?_, fun s p hmap => State.portAnswers_of_ioMap hmap p,
    fun s a lo hi halone hlo hhi => ?_⟩
  · rw [State.portAnswers_of_ioMap hmap, portAnswersIn_cons, if_pos hdec]
  · rw [State.portAnswers_of_ioMap hmap, portAnswersIn_cons, if_neg hdec, State.portAnswers]
  · rw [State.readWord_known halone hlo hhi]
    exact ⟨joinBytes_toNat hi lo, rfl⟩

/-! What a sequence of stores leaves in memory. -/

/-- What stands at an address is the memory map's alone. -/
theorem State.kindAt_congr {s t : State} (hmap : t.memMap = s.memMap) (a : Word) : t.kindAt a = s.kindAt a := by
  unfold State.kindAt
  rw [hmap]

/-- The empty sequence of stores. -/
theorem StoresAt.nil (s : State) : StoresAt s s [] := ⟨nofun, fun _ _ => rfl⟩

/-- StoresAt speaks of the state after the stores by its memory alone. -/
theorem StoresAt.congr {s t u : State} {ws : List (Word × Byte)} (h : StoresAt s t ws) (hmem : u.mem = t.mem) :
    StoresAt s u ws := by
  unfold StoresAt at *
  rwa [hmem]

/-- A further store, at an address not yet stored to. -/
theorem StoresAt.storeByte {s t : State} {ws : List (Word × Byte)} {a : Word} (h : StoresAt s t ws)
    (hmap : t.memMap = s.memMap) (hnew : ∀ w ∈ ws, w.1 ≠ a) (v : Byte) :
    StoresAt s (t.storeByte a v) (ws ++ [(a, v)]) := by
  obtain ⟨hstored, hkept⟩ := h
  have hkind := State.kindAt_congr hmap a
  constructor
  · intro w hw hram
    rcases List.mem_append.mp hw with hold | hlast
    · have hne : w.1.toNat ≠ a.toNat := mt BitVec.eq_of_toNat_eq (hnew w hold)
      rw [State.storeByte_byteAt_other _ _ _ _ hne]
      exact hstored w hold hram
    · obtain rfl := List.mem_singleton.mp hlast
      rw [State.storeByte_ram _ _ _ (hkind.trans hram)]
      exact Memory.byteAt_store_same _ _ _
  · intro x hx
    have hold : t.mem.byteAt x = s.mem.byteAt x := hkept x fun w hw => hx w (List.mem_append_left _ hw)
    by_cases hxa : x = a.toNat
    · have hnotRam : t.kindAt a ≠ .ram := hkind ▸ hx (a, v) (by simp) hxa.symm
      rw [State.storeByte_notRam _ _ _ hnotRam, hold]
    · rw [State.storeByte_byteAt_other _ _ _ _ hxa, hold]

/-- Two stores, at different addresses. -/
theorem storesAt_storeByte_storeByte (s : State) {a b : Word} (hne : a ≠ b) (v w : Byte) :
    StoresAt s ((s.storeByte a v).storeByte b w) [(a, v), (b, w)] :=
  ((StoresAt.nil s).storeByte rfl nofun v).storeByte (by simp) (by simpa using hne) w

/-- A byte stored to RAM is held there afterwards. -/
theorem StoresAt.holds {s t : State} {ws : List (Word × Byte)} {a : Word} {v : Byte} (h : StoresAt s t ws)
    (hmap : t.memMap = s.memMap) (hw : (a, v) ∈ ws) (hram : s.kindAt a = .ram) : Holds t a v := by
  have hkind := State.kindAt_congr hmap a
  exact ⟨.inl (hkind.trans hram), h.1 (a, v) hw hram⟩

/-! The stack. -/

/-- Push16 pushes, and leaves PC (spec/20_memory.md R75). -/
theorem State.push16_pushesTo (s : State) (v : Word) (halone : Alone s) : PushesTo s (s.push16 v) v s.pc := by
  have hne : s.sp - 1 ≠ s.sp - 2 := by bv_omega
  have hafter := State.push16_after s v halone
  refine ⟨(storesAt_storeByte_storeByte s hne _ _).congr (by rw [hafter]), ?_⟩
  rw [hafter]

/-- A call pushes PC and goes to its target. -/
theorem State.callTo_pushesTo (s : State) (nn : Word) (halone : Alone s) : PushesTo s (s.callTo nn) s.pc nn := by
  obtain ⟨hstores, hframe⟩ := s.push16_pushesTo s.pc halone
  refine ⟨hstores, ?_⟩
  unfold State.callTo
  rw [hframe]

/-- Settles O8: the push as two stores at different addresses, and the pop of two bytes that memory holds. -/
theorem stackRules : Obligations.StackRules := by
  refine ⟨State.push16_pushesTo, fun s lo hi halone hlo hhi => ?_⟩
  rw [State.pop16_known s lo hi halone hlo.1 hlo.2 hhi.1 hhi.2]
  exact ⟨joinBytes_toNat hi lo, rfl⟩

/-- A pop after a push into RAM gives back the word and SP, and changes nothing else but the trace. -/
theorem PushesTo.pop16 {s t : State} {v p : Word} (h : PushesTo s t v p) (halone : Alone s)
    (hramHi : s.kindAt (s.sp - 1) = .ram) (hramLo : s.kindAt (s.sp - 2) = .ram) :
    t.pop16 = (v, { t with sp := s.sp, trace := t.pop16.2.trace }) := by
  obtain ⟨hstores, hframe⟩ := h
  have hmap : t.memMap = s.memMap := by rw [hframe]
  have hsp : t.sp = s.sp - 2 := by rw [hframe]
  have hsp1 : t.sp + 1 = s.sp - 1 := by rw [hsp]; bv_omega
  have hsp2 : t.sp + 2 = s.sp := by rw [hsp]; bv_omega
  have halone' : Alone t := by rw [hframe]; exact halone
  have hlo : Holds t t.sp (loByte v) := hsp ▸ hstores.holds hmap (by simp) hramLo
  have hhi : Holds t (t.sp + 1) (hiByte v) := hsp1 ▸ hstores.holds hmap (by simp) hramHi
  rw [State.pop16_known t _ _ halone' hlo.1 hlo.2 hhi.1 hhi.2, joinBytes_hiByte_loByte, hsp2]

/-- A pair read after a write of a pair. -/
theorem State.regQQ_setRegQQ (s : State) (q k : RegQQ) (v : Word) :
    (s.setRegQQ q v).regQQ k = if k = q then v else s.regQQ k := by
  cases q <;> cases k <;> simp [State.setRegQQ, State.regQQ, State.bc, State.de, State.hl, State.af]

/-- A push changes no pair, whatever another master does meanwhile. -/
theorem State.push16_regQQ (s : State) (v : Word) (k : RegQQ) : (s.push16 v).regQQ k = s.regQQ k := by
  cases k <;> simp [State.regQQ, State.bc, State.de, State.hl, State.af]

/-- Nor does a pop by itself. -/
theorem State.pop16_regQQ (s : State) (k : RegQQ) : s.pop16.2.regQQ k = s.regQQ k := by
  cases k <;> simp [State.regQQ, State.bc, State.de, State.hl, State.af]

/-- PUSH and then POP, over a stack in RAM. -/
theorem popQq_pushQq (s : State) (p q : RegQQ) (halone : Alone s) (hramHi : s.kindAt (s.sp - 1) = .ram)
    (hramLo : s.kindAt (s.sp - 2) = .ram) :
    ∃ t u, exec (.pushQq p) s = .next t ∧ exec (.popQq q) t = .next u ∧ u.sp = s.sp ∧
      ∀ k, u.regQQ k = if k = q then s.regQQ p else s.regQQ k := by
  have hpop := (s.push16_pushesTo (s.regQQ p) halone).pop16 halone hramHi hramLo
  refine ⟨_, _, rfl, rfl, ?_, fun k => ?_⟩
  · rw [State.setRegQQ_sp, hpop]
  · rw [State.regQQ_setRegQQ, State.pop16_regQQ, State.push16_regQQ, hpop]

/-- CALL and then RET, over a stack in RAM. -/
theorem ret_callNn (s : State) (nn : Word) (halone : Alone s) (hramHi : s.kindAt (s.sp - 1) = .ram)
    (hramLo : s.kindAt (s.sp - 2) = .ram) :
    ∃ t u, exec (.callNn nn) s = .next t ∧ t.pc = nn ∧ exec .ret t = .next u ∧ u.pc = s.pc ∧ u.sp = s.sp := by
  have hpop := (s.callTo_pushesTo nn halone).pop16 halone hramHi hramLo
  refine ⟨_, _, rfl, rfl, rfl, ?_, ?_⟩ <;> rw [State.returnPop, hpop]

/-- Settles O21: a pop after a push into RAM (`PushesTo.pop16`), for PUSH and POP and for CALL and RET. -/
theorem stackRoundTrips : Obligations.StackRoundTrips := fun s halone hramHi hramLo =>
  ⟨fun p q => popQq_pushQq s p q halone hramHi hramLo, fun nn => ret_callNn s nn halone hramHi hramLo⟩

end Sys2Proof.Machine
end

section
/-! PROOF. The family of spec/30_encoding.md: the decoder reads back what the encoder writes, whatever bytes follow
(R128); what it reads is well-formed and written by the encoder (R128, R129); and a step that fetches an unassigned
encoding is refused (R129). -/

namespace Sys2Proof

/-! Words, and restart addresses. -/

theorem joinBytes_hiByte_loByte (w : Word) : joinBytes (hiByte w) (loByte w) = w := by
  rw [joinBytes, hiByte, loByte, BitVec.extractLsb'_append_extractLsb'_eq_extractLsb' (by rfl), BitVec.extractLsb'_eq_self]

theorem loByte_joinBytes (hi lo : Byte) : loByte (joinBytes hi lo) = lo := BitVec.extractLsb'_append_eq_right

theorem hiByte_joinBytes (hi lo : Byte) : hiByte (joinBytes hi lo) = hi := BitVec.extractLsb'_append_eq_left

/-- A restart address is 8 times its bits 5:3 (spec/30_encoding.md R119). -/
theorem restartAddress_fieldY {p : Byte} (h : restartOk p = true) : restartAddress (fieldY p) = p := by
  revert p; decide

/-! A byte and its fields. -/

theorem fieldX_lt (b : Byte) : fieldX b < 4 := Nat.div_lt_of_lt_mul b.isLt

theorem fieldY_lt (b : Byte) : fieldY b < 8 := Nat.mod_lt _ (by decide)

theorem fieldZ_lt (b : Byte) : fieldZ b < 8 := Nat.mod_lt _ (by decide)

/-- The byte with x at bits 7:6, y at bits 5:3 and z at bits 2:0. -/
def byteOf (x y z : Nat) : Byte := BitVec.ofNat 8 (64 * x + 8 * y + z)

/-- A byte is its fields and nothing else: no bit of an encoding is dropped. -/
theorem byteOf_fields (b : Byte) : byteOf (fieldX b) (fieldY b) (fieldZ b) = b := by
  refine BitVec.eq_of_toNat_eq ?_
  simp only [byteOf, fieldX, fieldY, fieldZ, BitVec.toNat_ofNat]
  omega

/-- Every byte is a row x, y, z of a table. -/
theorem exists_byteOf (b : Byte) : ∃ x < 4, ∃ y < 8, ∃ z < 8, byteOf x y z = b :=
  ⟨_, fieldX_lt b, _, fieldY_lt b, _, fieldZ_lt b, byteOf_fields b⟩

theorem fieldX_byteOf {x y z : Nat} (hx : x < 4) (hy : y < 8) (hz : z < 8) : fieldX (byteOf x y z) = x := by
  simp only [byteOf, fieldX, BitVec.toNat_ofNat]
  omega

theorem fieldY_byteOf (x : Nat) {y z : Nat} (hy : y < 8) (hz : z < 8) : fieldY (byteOf x y z) = y := by
  simp only [byteOf, fieldY, BitVec.toNat_ofNat]
  omega

theorem fieldZ_byteOf (x : Nat) {y z : Nat} (hz : z < 8) : fieldZ (byteOf x y z) = z := by
  simp only [byteOf, fieldZ, BitVec.toNat_ofNat]
  omega

/-- Field r is the register's code (spec/30_encoding.md R112). -/
theorem eq_code_of_decodeR8 {n : Nat} {r : R8} (h : decodeR8 n = some r) : n = r.code.toNat := by
  unfold decodeR8 at h
  split at h <;> cases h <;> rfl

/-- Only 110 is no register (R112). -/
theorem eq_six_of_decodeR8 {n : Nat} (hn : n < 8) (h : decodeR8 n = none) : n = 6 := by
  revert h
  interval_cases n <;> decide

/-! Decoding an encoding. -/

theorem opWord_loByte_hiByte (k : Word → Instr) (nn : Word) (rest : List Byte) :
    opWord k (loByte nn :: hiByte nn :: rest) = .ok (k nn, rest) := by
  rw [opWord, joinBytes_hiByte_loByte]

/-- The operands of an instruction are of three kinds: a field of an opcode byte, of which the decoder is run on each
value; a word after the opcode, which is joined again; a byte after it, which stands there as it is. -/
theorem decode_encode (i : Instr) (rest : List Byte) (h : WellFormed i = true) :
    decode (encode i ++ rest) = .ok (i, rest) := by
  cases i
  case ldRR rd rs => cases rd <;> cases rs <;> rfl
  case ldRN r _ | ldRAtHl r | ldRAtIx r _ | ldRAtIy r _ | ldAtHlR r | ldAtIxR _ r | ldAtIyR _ r | addAR r | adcAR r
    | subR r | sbcAR r | andR r | xorR r | orR r | cpR r | incR r | decR r | rlcR r | rrcR r | rlR r | rrR r | slaR r
    | sraR r | srlR r | inRC r | outCR r => cases r <;> rfl
  case addHlSs dd | adcHlSs dd | sbcHlSs dd | incSs dd | decSs dd => cases dd <;> rfl
  case pushQq qq | popQq qq => cases qq <;> rfl
  case addIxPp pp => cases pp <;> rfl
  case addIyRr rr => cases rr <;> rfl
  case retCc cc => cases cc <;> rfl
  case bitBR b r | setBR b r | resBR b r =>
    have hb : b < 8 := of_decide_eq_true h
    interval_cases b <;> cases r <;> rfl
  case bitBAtHl b | setBAtHl b | resBAtHl b | bitBAtIx b _ | setBAtIx b _ | resBAtIx b _ | bitBAtIy b _ | setBAtIy b _
    | resBAtIy b _ =>
    have hb : b < 8 := of_decide_eq_true h
    interval_cases b <;> rfl
  case rstP p =>
    have hy := fieldY_lt p
    rw [← restartAddress_fieldY h]
    interval_cases fieldY p <;> rfl
  case ldAAtNn nn | ldAtNnA nn | ldIxNn nn | ldIyNn nn | ldHlAtNn nn | ldIxAtNn nn | ldIyAtNn nn | ldAtNnHl nn
    | ldAtNnIx nn | ldAtNnIy nn | jpNn nn | callNn nn => exact opWord_loByte_hiByte _ nn rest
  case ldDdNn dd nn | ldDdAtNn dd nn => cases dd <;> exact opWord_loByte_hiByte _ nn rest
  case ldAtNnDd nn dd => cases dd <;> exact opWord_loByte_hiByte (fun w => .ldAtNnDd w _) nn rest
  case jpCcNn cc nn | callCcNn cc nn => cases cc <;> exact opWord_loByte_hiByte _ nn rest
  all_goals rfl

/-- Settles O1: whatever the operands are, `decode_encode`. -/
theorem decodeOfEncode : Obligations.DecodeOfEncode := decode_encode

/-! Encoding what was decoded. -/

/-- If the answer x of a decoder is an instruction, then it is well-formed, and its encoding is the opcode bytes `got`
read before and the bytes read from bs. -/
def ReadFrom (got bs : List Byte) (x : Decoded) : Prop :=
  ∀ i rest, x = .ok (i, rest) → WellFormed i = true ∧ got ++ bs = encode i ++ rest

theorem ReadFrom.error (got bs : List Byte) (why : Reject) : ReadFrom got bs (.error why) := by
  rintro i rest ⟨⟩

theorem opNone_readFrom {got : List Byte} {i : Instr} (bs : List Byte) (hwf : WellFormed i = true)
    (henc : encode i = got) : ReadFrom got bs (opNone i bs) := by
  rintro j rest ⟨⟩
  exact ⟨hwf, by rw [henc]⟩

/-- A table that leaves some codes unassigned. -/
theorem optNone_readFrom {got : List Byte} (o : Option Instr) (why : Reject) (bs : List Byte) :
    (∀ i, o = some i → WellFormed i = true ∧ encode i = got) →
    ReadFrom got bs (match o with | some i => opNone i bs | none => .error why) := by
  intro h
  cases o with
  | none => exact ReadFrom.error _ _ _
  | some i => exact opNone_readFrom bs (h i rfl).1 (h i rfl).2

theorem opByte_readFrom {got : List Byte} {k : Byte → Instr} (bs : List Byte) (hwf : ∀ v, WellFormed (k v) = true)
    (henc : ∀ v, encode (k v) = got ++ [v]) : ReadFrom got bs (opByte k bs) := by
  rcases bs with _ | ⟨v, bs⟩ <;> rintro j rest ⟨⟩
  exact ⟨hwf v, by rw [henc, List.append_assoc]; rfl⟩

theorem opWord_readFrom {got : List Byte} (k : Word → Instr) (bs : List Byte) (hwf : ∀ nn, WellFormed (k nn) = true)
    (henc : ∀ nn, encode (k nn) = got ++ [loByte nn, hiByte nn]) : ReadFrom got bs (opWord k bs) := by
  rcases bs with _ | ⟨lo, _ | ⟨hi, bs⟩⟩ <;> rintro j rest ⟨⟩
  exact ⟨hwf _, by rw [henc, loByte_joinBytes, hiByte_joinBytes, List.append_assoc]; rfl⟩

theorem opTwo_readFrom {got : List Byte} {k : Byte → Byte → Instr} (bs : List Byte)
    (hwf : ∀ d n, WellFormed (k d n) = true) (henc : ∀ d n, encode (k d n) = got ++ [d, n]) :
    ReadFrom got bs (opTwo k bs) := by
  rcases bs with _ | ⟨d, _ | ⟨n, bs⟩⟩ <;> rintro j rest ⟨⟩
  exact ⟨hwf d n, by rw [henc, List.append_assoc]; rfl⟩

/-! An instruction of the main table (spec/30_encoding.md Table R130). A quarter is a table of 64 codes, by the fields y
and z; each row is one of the operand forms above, and its encoding computes to the code. -/

section
variable {y z : Nat} (hy : y < 8) (hz : z < 8) (bs : List Byte)
include hy hz

theorem decodeQuarter0_readFrom : ReadFrom [byteOf 0 y z] bs (decodeQuarter0 (byteOf 0 y z) bs) := by
  interval_cases z <;> interval_cases y
  all_goals first
    | exact opNone_readFrom bs rfl rfl
    | exact opByte_readFrom bs (fun _ => rfl) fun _ => rfl
    | exact opWord_readFrom _ bs (fun _ => rfl) fun _ => rfl

theorem decodeQuarter1_readFrom : ReadFrom [byteOf 1 y z] bs (decodeQuarter1 (byteOf 1 y z) bs) := by
  interval_cases z <;> interval_cases y <;> exact opNone_readFrom bs rfl rfl

theorem decodeQuarter2_readFrom : ReadFrom [byteOf 2 y z] bs (decodeQuarter2 (byteOf 2 y z) bs) := by
  interval_cases z <;> interval_cases y <;> exact opNone_readFrom bs rfl rfl

/-- CB, DD, ED and FD lie in this quarter: `decode` takes them before. -/
theorem decodeQuarter3_readFrom (hb : isPrefixByte (byteOf 3 y z) = false) :
    ReadFrom [byteOf 3 y z] bs (decodeQuarter3 (byteOf 3 y z) bs) := by
  interval_cases z <;> interval_cases y
  all_goals first
    | exact absurd hb (by decide)
    | exact opNone_readFrom bs rfl rfl
    | exact opByte_readFrom bs (fun _ => rfl) fun _ => rfl
    | exact opWord_readFrom _ bs (fun _ => rfl) fun _ => rfl

end

theorem decodeMain_readFrom {b : Byte} (hb : isPrefixByte b = false) (bs : List Byte) :
    ReadFrom [b] bs (decodeMain b bs) := by
  obtain ⟨x, hx, y, hy, z, hz, rfl⟩ := exists_byteOf b
  rw [decodeMain, fieldX_byteOf hx hy hz]
  interval_cases x
  · exact decodeQuarter0_readFrom hy hz bs
  · exact decodeQuarter1_readFrom hy hz bs
  · exact decodeQuarter2_readFrom hy hz bs
  · exact decodeQuarter3_readFrom hy hz bs hb

/-! After CB (Table R131). -/

theorem shiftOnReg_encode {y : Nat} {r : R8} {i : Instr} (h : shiftOnReg y r = some i) :
    WellFormed i = true ∧ encode i = [0xCB, byteOf 0 y r.code.toNat] := by
  unfold shiftOnReg at h
  split at h <;> cases h <;> cases r <;> exact ⟨rfl, rfl⟩

theorem shiftOnHl_encode {y : Nat} {i : Instr} (h : shiftOnHl y = some i) :
    WellFormed i = true ∧ encode i = [0xCB, byteOf 0 y 6] := by
  unfold shiftOnHl at h
  split at h <;> cases h <;> exact ⟨rfl, rfl⟩

/-- A bit number and a register in their fields. -/
theorem withYZ_bitCode : ∀ x < 4, ∀ y < 8, ∀ r : R8,
    withYZ (byteOf x 0 0) (bitCode y) r.code = byteOf x y r.code.toNat := by
  intro x hx y hy r
  cases r <;> revert x y <;> decide

/-- A bit number in its field, with 110 (a byte of memory) at bits 2:0. -/
theorem withY_bitCode : ∀ x < 4, ∀ y < 8, withY (byteOf x 0 6) (bitCode y) = byteOf x y 6 := by decide

theorem decodeCB_readFrom (bs : List Byte) : ReadFrom [0xCB] bs (decodeCB bs) := by
  cases bs with
  | nil => exact ReadFrom.error _ _ _
  | cons b bs =>
    change ReadFrom [0xCB, b] bs _
    obtain ⟨x, hx, y, hy, z, hz, rfl⟩ := exists_byteOf b
    simp only [decodeCB, fieldX_byteOf, fieldY_byteOf, fieldZ_byteOf, hx, hy, hz]
    cases hr : decodeR8 z with
    | none =>
      obtain rfl := eq_six_of_decodeR8 hz hr
      have hcode (x : Nat) (hx : x < 4) := congrArg (fun c => [0xCB, c]) (withY_bitCode x hx y hy)
      interval_cases x
      · exact optNone_readFrom (shiftOnHl y) _ bs fun i => shiftOnHl_encode
      · exact opNone_readFrom bs (decide_eq_true hy) (hcode 1 (by decide))
      · exact opNone_readFrom bs (decide_eq_true hy) (hcode 2 (by decide))
      · exact opNone_readFrom bs (decide_eq_true hy) (hcode 3 (by decide))
    | some r =>
      obtain rfl := eq_code_of_decodeR8 hr
      have hcode (x : Nat) (hx : x < 4) := congrArg (fun c => [0xCB, c]) (withYZ_bitCode x hx y hy r)
      interval_cases x
      · exact optNone_readFrom (shiftOnReg y r) _ bs fun i => shiftOnReg_encode
      · exact opNone_readFrom bs (decide_eq_true hy) (hcode 1 (by decide))
      · exact opNone_readFrom bs (decide_eq_true hy) (hcode 2 (by decide))
      · exact opNone_readFrom bs (decide_eq_true hy) (hcode 3 (by decide))

/-! After ED (Table R132). -/

section
variable {y z : Nat} (hy : y < 8) (hz : z < 8) (bs : List Byte)
include hy hz

theorem decodeEDQuarter1_readFrom : ReadFrom [0xED, byteOf 1 y z] bs (decodeEDQuarter1 (byteOf 1 y z) bs) := by
  interval_cases z <;> interval_cases y
  all_goals first
    | exact opNone_readFrom bs rfl rfl
    | exact opWord_readFrom (fun nn => .ldAtNnDd nn _) bs (fun _ => rfl) fun _ => rfl
    | exact opWord_readFrom (.ldDdAtNn _) bs (fun _ => rfl) fun _ => rfl
    | exact ReadFrom.error _ _ _

theorem decodeEDQuarter2_readFrom : ReadFrom [0xED, byteOf 2 y z] bs (decodeEDQuarter2 (byteOf 2 y z) bs) := by
  rw [decodeEDQuarter2, fieldY_byteOf 2 hy hz, fieldZ_byteOf 2 hz]
  split
  case h_17 => exact ReadFrom.error _ _ _
  all_goals exact opNone_readFrom bs rfl rfl

end

theorem decodeED_readFrom (bs : List Byte) : ReadFrom [0xED] bs (decodeED bs) := by
  cases bs with
  | nil => exact ReadFrom.error _ _ _
  | cons b bs =>
    change ReadFrom [0xED, b] bs _
    obtain ⟨x, hx, y, hy, z, hz, rfl⟩ := exists_byteOf b
    simp only [decodeED, fieldX_byteOf hx hy hz]
    split
    · exact decodeEDQuarter1_readFrom hy hz bs
    · exact decodeEDQuarter2_readFrom hy hz bs
    · exact ReadFrom.error _ _ _

/-! After DD or FD, what the two tables share. -/

/-- The loads between a register and a byte of memory: one of the two fields is 110. -/
theorem loadOrStore_readFrom {p : Byte} {y z : Nat} (hy : y < 8) (hz : z < 8) (load store : R8 → Byte → Instr)
    (why : Reject) (bs : List Byte)
    (hload : ∀ r d, WellFormed (load r d) = true ∧ encode (load r d) = [p, byteOf 1 r.code.toNat 6, d])
    (hstore : ∀ r d, WellFormed (store r d) = true ∧ encode (store r d) = [p, byteOf 1 6 r.code.toNat, d]) :
    ReadFrom [p, byteOf 1 y z] bs
      (match decodeR8 y, decodeR8 z with
        | some r, none => opByte (load r) bs
        | none, some r => opByte (store r) bs
        | _, _ => .error why) := by
  cases hry : decodeR8 y with
  | none =>
    cases hrz : decodeR8 z with
    | none => exact ReadFrom.error _ _ _
    | some r =>
      obtain rfl := eq_six_of_decodeR8 hy hry
      obtain rfl := eq_code_of_decodeR8 hrz
      exact opByte_readFrom bs (fun d => (hstore r d).1) fun d => (hstore r d).2
  | some r =>
    cases hrz : decodeR8 z with
    | some _ => exact ReadFrom.error _ _ _
    | none =>
      obtain rfl := eq_code_of_decodeR8 hry
      obtain rfl := eq_six_of_decodeR8 hz hrz
      exact opByte_readFrom bs (fun d => (hload r d).1) fun d => (hload r d).2

/-! After DD (Tables R133, R134). -/

theorem aluOnIx_encode {y : Nat} (hy : y < 8) (d : Byte) :
    WellFormed (aluOnIx y d) = true ∧ encode (aluOnIx y d) = [0xDD, byteOf 2 y 6, d] := by
  interval_cases y <;> exact ⟨rfl, rfl⟩

theorem shiftOnIx_encode {y : Nat} {d : Byte} {i : Instr} (h : shiftOnIx y d = some i) :
    WellFormed i = true ∧ encode i = [0xDD, 0xCB, d, byteOf 0 y 6] := by
  unfold shiftOnIx at h
  split at h <;> cases h <;> exact ⟨rfl, rfl⟩

theorem decodeIXCB_readFrom (bs : List Byte) : ReadFrom [0xDD, 0xCB] bs (decodeIXCB bs) := by
  match bs with
  | [] | [_] => exact ReadFrom.error _ _ _
  | d :: b :: bs =>
    change ReadFrom [0xDD, 0xCB, d, b] bs _
    obtain ⟨x, hx, y, hy, z, hz, rfl⟩ := exists_byteOf b
    simp only [decodeIXCB, fieldX_byteOf, fieldY_byteOf, fieldZ_byteOf, hx, hy, hz]
    have hcode (x : Nat) (hx : x < 4) := congrArg (fun c => [0xDD, 0xCB, d, c]) (withY_bitCode x hx y hy)
    split
    case h_1 => exact optNone_readFrom (shiftOnIx y d) _ bs fun i => shiftOnIx_encode
    case h_5 => exact ReadFrom.error _ _ _
    all_goals exact opNone_readFrom bs (decide_eq_true hy) (hcode _ hx)

section
variable {y z : Nat} (hy : y < 8) (hz : z < 8) (bs : List Byte)
include hy hz

theorem decodeIXQuarter0_readFrom : ReadFrom [0xDD, byteOf 0 y z] bs (decodeIXQuarter0 (byteOf 0 y z) bs) := by
  rw [decodeIXQuarter0, fieldY_byteOf 0 hy hz, fieldZ_byteOf 0 hz]
  split
  all_goals first
    | exact opNone_readFrom bs rfl rfl
    | exact opByte_readFrom bs (fun _ => rfl) fun _ => rfl
    | exact opWord_readFrom _ bs (fun _ => rfl) fun _ => rfl
    | exact opTwo_readFrom bs (fun _ _ => rfl) fun _ _ => rfl
    | exact ReadFrom.error _ _ _

theorem decodeIXQuarter3_readFrom : ReadFrom [0xDD, byteOf 3 y z] bs (decodeIXQuarter3 (byteOf 3 y z) bs) := by
  rw [decodeIXQuarter3, fieldY_byteOf 3 hy hz, fieldZ_byteOf 3 hz]
  split
  case h_6 => exact ReadFrom.error _ _ _
  all_goals exact opNone_readFrom bs rfl rfl

end

theorem decodeIX_readFrom (bs : List Byte) : ReadFrom [0xDD] bs (decodeIX bs) := by
  cases bs with
  | nil => exact ReadFrom.error _ _ _
  | cons b bs =>
    change ReadFrom [0xDD, b] bs _
    by_cases hcb : b = 0xCB
    · rw [hcb]
      exact decodeIXCB_readFrom bs
    · obtain ⟨x, hx, y, hy, z, hz, rfl⟩ := exists_byteOf b
      simp only [decodeIX, if_neg hcb, fieldX_byteOf, fieldY_byteOf, fieldZ_byteOf, hx, hy, hz]
      interval_cases x
      · exact decodeIXQuarter0_readFrom hy hz bs
      · exact loadOrStore_readFrom hy hz .ldRAtIx (fun r d => .ldAtIxR d r) _ bs (by rintro ⟨⟩ d <;> exact ⟨rfl, rfl⟩)
          (by rintro ⟨⟩ d <;> exact ⟨rfl, rfl⟩)
      · by_cases h6 : z = 6
        · subst h6
          exact opByte_readFrom bs (fun d => (aluOnIx_encode hy d).1) fun d => (aluOnIx_encode hy d).2
        · simp only [h6]
          exact ReadFrom.error _ _ _
      · exact decodeIXQuarter3_readFrom hy hz bs

/-! After FD (Tables R133, R134). -/

theorem aluOnIy_encode {y : Nat} (hy : y < 8) (d : Byte) :
    WellFormed (aluOnIy y d) = true ∧ encode (aluOnIy y d) = [0xFD, byteOf 2 y 6, d] := by
  interval_cases y <;> exact ⟨rfl, rfl⟩

theorem shiftOnIy_encode {y : Nat} {d : Byte} {i : Instr} (h : shiftOnIy y d = some i) :
    WellFormed i = true ∧ encode i = [0xFD, 0xCB, d, byteOf 0 y 6] := by
  unfold shiftOnIy at h
  split at h <;> cases h <;> exact ⟨rfl, rfl⟩

theorem decodeIYCB_readFrom (bs : List Byte) : ReadFrom [0xFD, 0xCB] bs (decodeIYCB bs) := by
  match bs with
  | [] | [_] => exact ReadFrom.error _ _ _
  | d :: b :: bs =>
    change ReadFrom [0xFD, 0xCB, d, b] bs _
    obtain ⟨x, hx, y, hy, z, hz, rfl⟩ := exists_byteOf b
    simp only [decodeIYCB, fieldX_byteOf, fieldY_byteOf, fieldZ_byteOf, hx, hy, hz]
    have hcode (x : Nat) (hx : x < 4) := congrArg (fun c => [0xFD, 0xCB, d, c]) (withY_bitCode x hx y hy)
    split
    case h_1 => exact optNone_readFrom (shiftOnIy y d) _ bs fun i => shiftOnIy_encode
    case h_5 => exact ReadFrom.error _ _ _
    all_goals exact opNone_readFrom bs (decide_eq_true hy) (hcode _ hx)

section
variable {y z : Nat} (hy : y < 8) (hz : z < 8) (bs : List Byte)
include hy hz

theorem decodeIYQuarter0_readFrom : ReadFrom [0xFD, byteOf 0 y z] bs (decodeIYQuarter0 (byteOf 0 y z) bs) := by
  rw [decodeIYQuarter0, fieldY_byteOf 0 hy hz, fieldZ_byteOf 0 hz]
  split
  all_goals first
    | exact opNone_readFrom bs rfl rfl
    | exact opByte_readFrom bs (fun _ => rfl) fun _ => rfl
    | exact opWord_readFrom _ bs (fun _ => rfl) fun _ => rfl
    | exact opTwo_readFrom bs (fun _ _ => rfl) fun _ _ => rfl
    | exact ReadFrom.error _ _ _

theorem decodeIYQuarter3_readFrom : ReadFrom [0xFD, byteOf 3 y z] bs (decodeIYQuarter3 (byteOf 3 y z) bs) := by
  rw [decodeIYQuarter3, fieldY_byteOf 3 hy hz, fieldZ_byteOf 3 hz]
  split
  case h_6 => exact ReadFrom.error _ _ _
  all_goals exact opNone_readFrom bs rfl rfl

end

theorem decodeIY_readFrom (bs : List Byte) : ReadFrom [0xFD] bs (decodeIY bs) := by
  cases bs with
  | nil => exact ReadFrom.error _ _ _
  | cons b bs =>
    change ReadFrom [0xFD, b] bs _
    by_cases hcb : b = 0xCB
    · rw [hcb]
      exact decodeIYCB_readFrom bs
    · obtain ⟨x, hx, y, hy, z, hz, rfl⟩ := exists_byteOf b
      simp only [decodeIY, if_neg hcb, fieldX_byteOf, fieldY_byteOf, fieldZ_byteOf, hx, hy, hz]
      interval_cases x
      · exact decodeIYQuarter0_readFrom hy hz bs
      · exact loadOrStore_readFrom hy hz .ldRAtIy (fun r d => .ldAtIyR d r) _ bs (by rintro ⟨⟩ d <;> exact ⟨rfl, rfl⟩)
          (by rintro ⟨⟩ d <;> exact ⟨rfl, rfl⟩)
      · by_cases h6 : z = 6
        · subst h6
          exact opByte_readFrom bs (fun d => (aluOnIy_encode hy d).1) fun d => (aluOnIy_encode hy d).2
        · simp only [h6]
          exact ReadFrom.error _ _ _
      · exact decodeIYQuarter3_readFrom hy hz bs

/-! Any bytes. -/

theorem isPrefixByte_eq_false {b : Byte} (hCB : b ≠ 0xCB) (hED : b ≠ 0xED) (hDD : b ≠ 0xDD) (hFD : b ≠ 0xFD) :
    isPrefixByte b = false := by
  simp only [isPrefixByte, Bool.or_eq_false_iff, beq_eq_false_iff_ne]
  exact ⟨⟨⟨hCB, hED⟩, hDD⟩, hFD⟩

/-- What the decoder answers for any bytes: the tables after CB, ED, DD and FD, and the main one. -/
theorem decode_readFrom (bytes : List Byte) : ReadFrom [] bytes (decode bytes) := by
  cases bytes with
  | nil => exact ReadFrom.error _ _ _
  | cons b bs =>
    change ReadFrom [b] bs _
    simp only [decode]
    split_ifs with hCB hED hDD hFD
    · exact hCB ▸ decodeCB_readFrom bs
    · exact hED ▸ decodeED_readFrom bs
    · exact hDD ▸ decodeIX_readFrom bs
    · exact hFD ▸ decodeIY_readFrom bs
    · exact decodeMain_readFrom (isPrefixByte_eq_false hCB hED hDD hFD) bs

/-- Settles O2: `decode_readFrom`, with no opcode byte read before. -/
theorem encodeOfDecode : Obligations.EncodeOfDecode := fun bytes i rest h => decode_readFrom bytes i rest h

end Sys2Proof

namespace Sys2Proof.Machine

/-! A step that fetches an unassigned encoding. -/

/-- Bytes that each but the last leave the decoder asking for one more are at most 4 (spec/30_encoding.md R110). -/
theorem length_le_four_of_truncated {bytes : List Byte}
    (h : ∀ n < bytes.length, decode (bytes.take n) = .error .truncated) : bytes.length ≤ 4 := by
  by_contra hlong
  have htrunc := h 4 (by omega)
  match bytes with
  | [] | [_] | [_, _] | [_, _, _] => simp at hlong
  | b0 :: b1 :: b2 :: b3 :: _ => exact decode_decided b0 b1 b2 b3 [] htrunc

/-- The bytes read are rejected: the fetch is over. -/
theorem State.fetchFrom_of_error {got : List Byte} {why : Reject} (h : decode got = .error why)
    (ne : why ≠ .truncated) (fuel : Nat) (s : State) : State.fetchFrom fuel got s = .rejected why s := by
  unfold State.fetchFrom
  rw [h]
  cases why with
  | truncated => exact absurd rfl ne
  | _ => rfl

/-- The fetch of bytes that memory holds at PC and the decoder rejects at the last of them (spec/30_encoding.md R129). -/
theorem State.fetch_rejects {bytes : List Byte} {why : Reject} (s : State) (hdec : decode bytes = .error why)
    (ne : why ≠ .truncated) (htrunc : ∀ n < bytes.length, decode (bytes.take n) = .error .truncated)
    (halone : Alone s) (hbytes : ∀ n v, bytes[n]? = some v → Holds s (s.pc + BitVec.ofNat 16 n) v) :
    ∃ t, s.fetch = .rejected why t := by
  obtain ⟨t, hreads, -⟩ := State.fetchFrom_reads bytes [] (4 - bytes.length) s htrunc halone hbytes
  rw [Nat.sub_add_cancel (length_le_four_of_truncated htrunc)] at hreads
  exact ⟨t, hreads.trans (State.fetchFrom_of_error hdec ne _ t)⟩

/-- Settles O4: the fetch reads the bytes up to the one that the decoder rejects (`State.fetch_rejects`). -/
theorem stepRefusesUnassigned : Obligations.StepRefusesUnassigned := by
  intro s bytes why halone hreset hbus hrun hdec ne htrunc hbytes
  obtain ⟨t, hfetch⟩ := State.fetch_rejects { s.takeInput with busGranted := false, eiShadow := false } hdec ne htrunc
    (by rw [State.takeInput_frame]; exact halone) (by rw [State.takeInput_frame]; exact hbytes)
  rw [step_of_running s hreset hbus hrun, State.runInstr, hfetch]
  rfl

end Sys2Proof.Machine
end

section
/-! PROOF. The family of spec/40_load8.md: the loads of a register (R150, R151), of a register from memory (R152 to
R154, R161 to R163) and of memory from a register or an immediate (R155 to R160, R164 to R166); the loads between A and
I or R (R167 to R170); and one written word of each family of instructions. -/

namespace Sys2Proof.Machine

/-! The three shapes of an 8-bit load: a register written, a byte read into a register, a byte written to memory. -/

/-- A register write touches the seven general registers alone. -/
theorem State.setReg8_frame (s : State) (r : R8) (v : Byte) :
    s.setReg8 r v = { s with
      a := (s.setReg8 r v).a, b := (s.setReg8 r v).b, c := (s.setReg8 r v).c, d := (s.setReg8 r v).d,
      e := (s.setReg8 r v).e, h := (s.setReg8 r v).h, l := (s.setReg8 r v).l } := by
  cases r <;> rfl

/-- Of the general registers a register write changes the one written. -/
theorem State.setReg8_onlyReg8 (s : State) (r : R8) (v : Byte) : OnlyReg8 s (s.setReg8 r v) r v :=
  fun q => s.setReg8_reg8 r q v

/-- A memory read by itself changes no register, whatever another master does meanwhile. -/
theorem State.readByte_reg8 (s : State) (x : Word) (q : R8) : (s.readByte x).2.reg8 q = s.reg8 q := by
  cases q <;> simp [State.reg8]

/-- Writing to a register the byte just read, seen from before the read. -/
theorem State.setReg8_readByte_onlyReg8 (s : State) (r : R8) (x : Word) :
    OnlyReg8 s ((s.readByte x).2.setReg8 r (s.readByte x).1) r (s.dataAt x).1 := by
  intro q
  rw [State.setReg8_reg8, State.readByte_reg8, State.readByte_fst]

/-- A store to one address. -/
theorem storesAt_storeByte (s : State) (x : Word) (v : Byte) : StoresAt s (s.storeByte x v) [(x, v)] :=
  (StoresAt.nil s).storeByte rfl nofun v

theorem setsReg8_of_exec {i : Instr} {s : State} {r : R8} {v : Byte} (hexec : exec i s = .next (s.setReg8 r v)) :
    SetsReg8 i s r v :=
  ⟨_, hexec, s.setReg8_onlyReg8 r v, s.setReg8_frame r v⟩

theorem loadsReg8_of_exec {i : Instr} {s : State} {r : R8} {x : Word} (halone : Alone s)
    (hexec : exec i s = .next ((s.readByte x).2.setReg8 r (s.readByte x).1)) : LoadsReg8 i s r x := by
  have hread := s.readByte_after x halone
  refine ⟨_, hexec, s.setReg8_readByte_onlyReg8 r x, ?_, ?_⟩
  · rw [State.setReg8_trace, hread]
  · rw [State.setReg8_frame, hread]

theorem storesReg8_of_exec {i : Instr} {s : State} {x : Word} {v : Byte} (halone : Alone s)
    (hexec : exec i s = .next (s.writeByte x v)) : StoresReg8 i s x v := by
  have hwrite := s.writeByte_after x v halone
  refine ⟨_, hexec, (storesAt_storeByte s x v).congr (by rw [hwrite]), ?_⟩
  rw [hwrite]

/-- Settles O14: each of the six reads a byte into a register (`loadsReg8_of_exec`); the three of A alone write it as
the register `.a`. -/
theorem loadRegisterFromMemory : Obligations.LoadRegisterFromMemory := by
  intro s r d nn halone
  refine ⟨?_, ?_, ?_, ?_, ?_, ?_⟩ <;> exact loadsReg8_of_exec halone rfl

/-- Settles O15: each of the nine writes one byte (`storesReg8_of_exec`). -/
theorem storeToMemory : Obligations.StoreToMemory := by
  intro s r d n nn halone
  refine ⟨?_, ?_, ?_, ?_, ?_, ?_, ?_, ?_, ?_⟩ <;> exact storesReg8_of_exec halone rfl

/-- Settles O13: both write one register (`setsReg8_of_exec`). -/
theorem loadRegister : Obligations.LoadRegister := fun _ _ =>
  ⟨fun _ => setsReg8_of_exec rfl, fun _ => setsReg8_of_exec rfl⟩

/-! The flags of a loaded byte. -/

/-- Bit 7 of a byte is its sign (spec/00_scope.md R7). -/
theorem getLsbD_seven_iff_toInt_neg (v : Byte) : v.getLsbD 7 = true ↔ v.toInt < 0 := by
  rw [← decide_eq_true_iff (p := v.toInt < 0), ← BitVec.msb_eq_toInt, BitVec.msb_eq_getLsbD_last]

/-- A byte compares equal to 0 where its number is 0. -/
theorem beq_zero_iff_toNat_eq_zero (v : Byte) : (v == 0) = true ↔ v.toNat = 0 := by
  rw [beq_iff_eq, BitVec.toNat_eq]
  rfl

/-- The flags the model computes for a loaded byte meet the rule, whatever P/V shows. -/
theorem loadedFlags_loadedRule (old : Flags) (v : Byte) (pv : Bool) :
    LoadedRule old v (pv = true) (loadedFlags old v pv) :=
  ⟨getLsbD_seven_iff_toInt_neg v, beq_zero_iff_toNat_eq_zero v, rfl, Iff.rfl, rfl, rfl⟩

/-- Settles O16: the flags by `loadedFlags_loadedRule`; the rest is the one field each of the four instructions
writes, and the free byte drawn for bits 5 and 3 of F. -/
theorem loadInterruptAndRefresh : Obligations.LoadInterruptAndRefresh := fun s =>
  ⟨⟨_, rfl, rfl, loadedFlags_loadedRule s.f.toFlags s.i s.iff2, rfl⟩,
    ⟨_, rfl, rfl, loadedFlags_loadedRule s.f.toFlags s.r s.iff2, rfl⟩, ⟨_, rfl, rfl, rfl⟩, ⟨_, rfl, rfl, rfl⟩⟩

/-! Written words. -/

/-- Settles O3: each word is what `encode` writes for its instruction, and the decoder reads that back
(`decode_encode`). -/
theorem writtenWordsDecode : Obligations.WrittenWordsDecode :=
  ⟨decode_encode (.ldRR .b .c) [] rfl, decode_encode (.ldAtIxN 0x05 0x2A) [] rfl,
    decode_encode (.ldDdNn .sp 0x1234) [] rfl, decode_encode .ldir [] rfl, decode_encode (.cpAtIy 0xFF) [] rfl,
    decode_encode .im2 [] rfl, decode_encode (.sbcHlSs .de) [] rfl, decode_encode (.srlR .a) [] rfl,
    decode_encode (.bitBAtIy 7 0x02) [] rfl, decode_encode (.jrZE 0xFE) [] rfl, decode_encode (.rstP 0x38) [] rfl,
    decode_encode (.outCR .b) [] rfl⟩

end Sys2Proof.Machine
end

section
/-! PROOF. The family of spec/41_load16.md: the loads of a register pair from an immediate or another pair (R180 to
R182, R191 to R193) and from memory (R183 to R186), the stores of a pair (R187 to R190), and the stack instructions
PUSH and POP (R194 to R199). -/

namespace Sys2Proof.Machine

/-! The pairs: what a write of one pair changes. -/

/-- A pair read after a write of a pair. -/
theorem State.regDD_setRegDD (s : State) (p q : RegDD) (v : Word) :
    (s.setRegDD p v).regDD q = if q = p then v else s.regDD q := by
  cases p <;> cases q <;> simp [State.setRegDD, State.regDD, State.bc, State.de, State.hl]

/-- A write of BC, DE, HL or SP touches the registers of these pairs alone. -/
theorem State.setRegDD_frame (s : State) (p : RegDD) (v : Word) :
    s.setRegDD p v = { s with
      b := (s.setRegDD p v).b, c := (s.setRegDD p v).c, d := (s.setRegDD p v).d, e := (s.setRegDD p v).e,
      h := (s.setRegDD p v).h, l := (s.setRegDD p v).l, sp := (s.setRegDD p v).sp } := by
  cases p <;> rfl

/-- A write of BC, DE, HL or AF touches the registers of these pairs alone. -/
theorem State.setRegQQ_frame (s : State) (p : RegQQ) (v : Word) :
    s.setRegQQ p v = { s with
      a := (s.setRegQQ p v).a, f := (s.setRegQQ p v).f, b := (s.setRegQQ p v).b, c := (s.setRegQQ p v).c,
      d := (s.setRegQQ p v).d, e := (s.setRegQQ p v).e, h := (s.setRegQQ p v).h, l := (s.setRegQQ p v).l } := by
  cases p <;> rfl

/-- A read of a word by itself changes no pair, whatever another master does meanwhile. -/
theorem State.readWord_regDD (s : State) (x : Word) (q : RegDD) : (s.readWord x).2.regDD q = s.regDD q := by
  cases q <;> simp [State.regDD, State.bc, State.de, State.hl]

/-! Loads from memory. -/

/-- Settles O18: each reads the word at nn, which leaves the registers and memory (`State.readWord_after`), and writes
it to its pair. -/
theorem loadPairFromMemory : Obligations.LoadPairFromMemory := by
  intro s nn halone
  have hread := s.readWord_after nn halone
  refine ⟨⟨_, rfl, State.setHL_hl _ _, ?_⟩, fun dd => ⟨_, rfl, fun q => ?_, ?_⟩, ⟨_, rfl, rfl, ?_⟩, ⟨_, rfl, rfl, ?_⟩⟩
  · rw [State.setHL, hread]
  · rw [State.regDD_setRegDD, State.readWord_regDD]
  · rw [State.setRegDD_frame, hread]
  · rw [hread]
  · rw [hread]

/-! Stores to memory. -/

theorem storesWord_of_exec {i : Instr} {s : State} {x v : Word} (halone : Alone s)
    (hexec : exec i s = .next (s.writeWord x v)) : StoresWord i s x v := by
  have hne : x ≠ x + 1 := by bv_omega
  have hwrite := s.writeWord_after x v halone
  refine ⟨_, hexec, (storesAt_storeByte_storeByte s hne _ _).congr (by rw [hwrite]), ?_⟩
  rw [hwrite]

/-- Settles O19: each of the four writes one word (`storesWord_of_exec`). -/
theorem storePair : Obligations.StorePair := fun _ _ halone =>
  ⟨storesWord_of_exec halone rfl, fun _ => storesWord_of_exec halone rfl, storesWord_of_exec halone rfl,
    storesWord_of_exec halone rfl⟩

/-! The stack instructions. -/

/-- Settles O20: the three pushes by `State.push16_pushesTo`; each pop takes the word at SP, which leaves the other
registers and memory (`State.pop16_after`), and writes it to its pair. -/
theorem pushAndPop : Obligations.PushAndPop := by
  intro s halone
  have hpush := fun v => s.push16_pushesTo v halone
  have hpop := s.pop16_after halone
  refine ⟨fun _ => ⟨_, rfl, hpush _⟩, ⟨_, rfl, hpush _⟩, ⟨_, rfl, hpush _⟩, fun qq => ⟨_, rfl, ?_, fun q => ?_, ?_⟩,
    ⟨_, rfl, s.pop16_sp, rfl, ?_⟩, ⟨_, rfl, s.pop16_sp, rfl, ?_⟩⟩
  · rw [State.setRegQQ_sp, State.pop16_sp]
  · rw [State.regQQ_setRegQQ, State.pop16_regQQ]
  · rw [State.setRegQQ_frame, hpop]
  · rw [hpop]
  · rw [hpop]

/-! Loads from an immediate or a pair. -/

/-- Settles O17: each writes one pair; for LD dd,nn what that changes is `State.regDD_setRegDD` and
`State.setRegDD_frame`. -/
theorem loadPair : Obligations.LoadPair := fun s nn =>
  ⟨fun dd => ⟨_, rfl, fun q => s.regDD_setRegDD dd q nn, s.setRegDD_frame dd nn⟩, ⟨_, rfl, rfl, rfl⟩,
    ⟨_, rfl, rfl, rfl⟩, ⟨_, rfl, rfl, rfl⟩, ⟨_, rfl, rfl, rfl⟩, ⟨_, rfl, rfl, rfl⟩⟩

end Sys2Proof.Machine
end

section
/-! PROOF. The family of spec/42_exchange_block.md: the exchanges of registers (R210 to R212) and of a pair with the top
of the stack (R213 to R215), the block transfers (R216 to R219) and the block searches (R220 to R223), with the
repetition of a block instruction (spec/60_exceptions.md R460). -/

namespace Sys2Proof.Machine

/-! Exchanges with the top of the stack. -/

/-- StoresAt does not depend on the order in which the stores are listed. -/
theorem StoresAt.perm {s t : State} {ws vs : List (Word × Byte)} (h : StoresAt s t ws) (hperm : ws.Perm vs) :
    StoresAt s t vs := by
  unfold StoresAt at *
  simpa only [hperm.mem_iff] using h

/-- The exchange leaves the pair's bytes at SP and SP + 1, whichever of them is written first. -/
theorem State.exchangeTop_storesAt (s : State) (v : Word) (halone : Alone s) :
    StoresAt s (s.exchangeTop v).2 [(s.sp, loByte v), (s.sp + 1, hiByte v)] := by
  have hne : s.sp + 1 ≠ s.sp := by bv_omega
  have hstores := storesAt_storeByte_storeByte s hne (hiByte v) (loByte v)
  exact (hstores.congr (by rw [s.exchangeTop_after v halone])).perm (.swap _ _ _)

/-- Settles O23: the word is the one read at SP, the stores are `State.exchangeTop_storesAt`, and what else the exchange
changes is `State.exchangeTop_after`. -/
theorem exchangeStackTop : Obligations.ExchangeStackTop := by
  intro s halone
  have hstores := fun v => s.exchangeTop_storesAt v halone
  have hafter := fun v => s.exchangeTop_after v halone
  refine ⟨⟨_, rfl, State.setHL_hl _ _, ?_, ?_⟩, ⟨_, rfl, rfl, (hstores s.ix).congr rfl, ?_⟩,
    ⟨_, rfl, rfl, (hstores s.iy).congr rfl, ?_⟩⟩
  · have hhl := (hstores s.hl).congr (u := (s.exchangeTop s.hl).2.setHL (s.exchangeTop s.hl).1) rfl
    rwa [State.hl, loByte_joinBytes, hiByte_joinBytes] at hhl
  · rw [State.setHL, hafter]
  · rw [hafter]
  · rw [hafter]

/-! The repetition of a block instruction. -/

/-- A block instruction goes back to its own first byte exactly where it repeats and is not done; nothing else changes
(spec/60_exceptions.md R460). -/
theorem State.repeatUnless_eq (s : State) {repeats done : Bool} {more : Prop} [Decidable more]
    (hmore : done = false ↔ more) :
    s.repeatUnless (!repeats || done) = { s with pc := if repeats = true ∧ more then s.pc - 2 else s.pc } := by
  have hiff : (!repeats || done) = true ↔ ¬(repeats = true ∧ more) := by
    cases repeats <;> simp [← hmore]
  simp only [State.repeatUnless_after, hiff, ite_not]

/-! Block transfers. -/

theorem State.blockTransfer_hl (s : State) (step : Word) : (s.blockTransfer step).hl = s.hl + step :=
  joinBytes_hiByte_loByte _

theorem State.blockTransfer_de (s : State) (step : Word) : (s.blockTransfer step).de = s.de + step :=
  joinBytes_hiByte_loByte _

theorem State.blockTransfer_bc (s : State) (step : Word) : (s.blockTransfer step).bc = s.bc - 1 :=
  joinBytes_hiByte_loByte _

theorem State.blockTransfer_pc (s : State) (step : Word) : (s.blockTransfer step).pc = s.pc := by
  simp [State.blockTransfer]

theorem State.blockTransfer_toFlags (s : State) (step : Word) :
    (s.blockTransfer step).f.toFlags = transferFlags s.f.toFlags (s.blockTransfer step).bc := by
  rw [State.blockTransfer_bc]
  rfl

/-- The byte at HL, stored at DE. -/
theorem State.blockTransfer_storesAt (s : State) (step : Word) (halone : Alone s) :
    StoresAt s (s.blockTransfer step) [(s.de, (s.dataAt s.hl).1)] :=
  (storesAt_storeByte s s.de _).congr (by rw [s.blockTransfer_after step halone])

/-- One byte moved, and the repetition until BC is 0 where the instruction repeats. -/
theorem transfers_of_exec {i : Instr} {s : State} {step : Word} {repeats : Bool} (halone : Alone s)
    (hexec : exec i s =
      .next ((s.blockTransfer step).repeatUnless (!repeats || (s.blockTransfer step).bc == 0))) :
    Transfers i s step repeats := by
  have hafter := s.blockTransfer_after step halone
  have hflags := s.blockTransfer_toFlags step
  rw [State.repeatUnless_eq _ beq_eq_false_iff_ne, State.blockTransfer_pc] at hexec
  refine ⟨_, hexec, (s.blockTransfer_storesAt step halone).congr rfl, s.blockTransfer_hl step, s.blockTransfer_de step,
    s.blockTransfer_bc step, (congrArg Flags.h hflags :), (congrArg Flags.n hflags :), ?pv, (congrArg Flags.s hflags :),
    (congrArg Flags.z hflags :), (congrArg Flags.c hflags :), rfl, ?frame⟩
  case pv => exact (Bool.eq_iff_iff.mp (congrArg Flags.pv hflags)).trans bne_iff_ne
  case frame => rw [hafter]

/-- Settles O24: each moves one byte, up or down, and goes on as `transfers_of_exec` says. -/
theorem blockTransfer : Obligations.BlockTransfer := fun _ halone =>
  ⟨transfers_of_exec halone rfl, transfers_of_exec halone rfl, transfers_of_exec halone rfl,
    transfers_of_exec halone rfl⟩

/-! The 8-bit difference. -/

/-- A signed difference leaves the range of a byte exactly where the operands have different signs and the result does
not have the sign of the first. -/
theorem sub8_overflow_iff (x y : Byte) (c : Bool) :
    (sub8 x y c).2.pv = true ↔
      x.toInt - y.toInt - (c.toNat : Int) < -2 ^ 7 ∨ 2 ^ 7 ≤ x.toInt - y.toInt - (c.toNat : Int) := by
  have hres : (sub8 x y c).1.toInt = (x.toInt - y.toInt - (c.toNat : Int)).bmod 256 := by
    simp only [sub8, BitVec.toInt_ofInt, x.toInt_eq_toNat_bmod, y.toInt_eq_toNat_bmod, Int.bmod_def]
    omega
  have hsigns : (sub8 x y c).2.pv = true ↔
      ¬(x.toInt < 0 ↔ y.toInt < 0) ∧ ¬((sub8 x y c).1.toInt < 0 ↔ x.toInt < 0) := by
    simp only [← getLsbD_seven_iff_toInt_neg, ← Bool.eq_iff_iff]
    simp [sub8]
  have hx := x.le_toInt
  have hx' := x.toInt_lt
  have hy := y.le_toInt
  have hy' := y.toInt_lt
  have hc := c.toNat_le
  rw [hsigns, hres, Int.bmod_def]
  omega

/-- `sub8` computes the difference and its flags (spec/43_arith8.md R231). -/
theorem sub8_diffRule (x y : Byte) (c : Bool) : DiffRule x y c (sub8 x y c).1 (sub8 x y c).2 := by
  refine ⟨?_, getLsbD_seven_iff_toInt_neg _, beq_zero_iff_toNat_eq_zero _, ?_, sub8_overflow_iff x y c, rfl, ?_⟩
  · simp only [sub8, BitVec.toNat_ofInt]
    omega
  · simp only [sub8, decide_eq_true_eq]
    omega
  · simp only [sub8, decide_eq_true_eq]
    omega

/-- A comparison sets Z exactly where the bytes are equal. -/
theorem sub8_z_iff_eq (x y : Byte) : (sub8 x y false).2.z = true ↔ x = y := by
  obtain ⟨hres, -, hz, -⟩ := sub8_diffRule x y false
  have hx := x.isLt
  have hy := y.isLt
  simp only [Bool.toNat_false] at hres
  rw [hz, BitVec.toNat_eq]
  omega

/-! Block searches. -/

theorem State.blockSearch_hl (s : State) (step : Word) : (s.blockSearch step).hl = s.hl + step :=
  joinBytes_hiByte_loByte _

theorem State.blockSearch_bc (s : State) (step : Word) : (s.blockSearch step).bc = s.bc - 1 :=
  joinBytes_hiByte_loByte _

theorem State.blockSearch_pc (s : State) (step : Word) : (s.blockSearch step).pc = s.pc := by
  simp [State.blockSearch]

theorem State.blockSearch_toFlags (s : State) (step : Word) :
    (s.blockSearch step).f.toFlags =
      searchFlags s.f.toFlags (sub8 s.a (s.dataAt s.hl).1 false).2 (s.blockSearch step).bc := by
  rw [State.blockSearch_bc]
  rfl

/-- Z after a block search says that the byte is found. -/
theorem State.blockSearch_z_iff (s : State) (step : Word) :
    (s.blockSearch step).f.z = true ↔ s.a = (s.dataAt s.hl).1 := by
  rw [← sub8_z_iff_eq, s.blockSearch_toFlags step]
  rfl

/-- One byte compared, and the repetition until BC is 0 or the byte is found where the instruction repeats. -/
theorem searches_of_exec {i : Instr} {s : State} {step : Word} {repeats : Bool} (halone : Alone s)
    (hexec : exec i s = .next ((s.blockSearch step).repeatUnless
      (!repeats || ((s.blockSearch step).bc == 0 || (s.blockSearch step).f.z)))) :
    Searches i s step repeats := by
  have hafter := s.blockSearch_after step halone
  have hflags := s.blockSearch_toFlags step
  have hz := s.blockSearch_z_iff step
  have hmore : ((s.blockSearch step).bc == 0 || (s.blockSearch step).f.z) = false ↔
      (s.blockSearch step).bc ≠ 0 ∧ s.a ≠ (s.dataAt s.hl).1 := by
    rw [Bool.or_eq_false_iff, beq_eq_false_iff_ne, ← Bool.not_eq_true, hz]
  rw [State.repeatUnless_eq _ hmore, State.blockSearch_pc] at hexec
  refine ⟨_, hexec, s.blockSearch_hl step, s.blockSearch_bc step,
    ⟨_, _, sub8_diffRule s.a (s.dataAt s.hl).1 false, (congrArg Flags.s hflags :), (congrArg Flags.z hflags :),
      (congrArg Flags.h hflags :)⟩,
    hz, ?pv, (congrArg Flags.n hflags :), (congrArg Flags.c hflags :), rfl, ?frame⟩
  case pv => exact (Bool.eq_iff_iff.mp (congrArg Flags.pv hflags)).trans bne_iff_ne
  case frame => rw [hafter]

/-- Settles O25: each compares one byte, upwards or downwards, and goes on as `searches_of_exec` says. -/
theorem blockSearch : Obligations.BlockSearch := fun _ halone =>
  ⟨searches_of_exec halone rfl, searches_of_exec halone rfl, searches_of_exec halone rfl, searches_of_exec halone rfl⟩

/-! Exchanges of registers. -/

/-- Settles O22: each assigns the old values of the registers it names crosswise, so a second one assigns them back. -/
theorem exchangeRegisters : Obligations.ExchangeRegisters := by
  intro s
  refine ⟨?exDeHl, ?exAf, ?exx⟩
  case exDeHl => exact ⟨_, rfl, rfl, rfl, rfl, rfl⟩
  case exAf => exact ⟨_, rfl, rfl, rfl, rfl, rfl, rfl, rfl⟩
  case exx => exact ⟨_, rfl, rfl, rfl, rfl, rfl, rfl, rfl, rfl, rfl, rfl, rfl, rfl, rfl, rfl, rfl⟩

end Sys2Proof.Machine
end

section
/-! PROOF. The family of spec/43_arith8.md: the functions add8, sub8, and8, or8 and xor8 (R230 to R232), the eight
accumulator operations on a register, an immediate or a byte in memory (Table R233, R234 to R273), and INC and DEC of a
register or a byte in memory (R274 to R281). -/

namespace Sys2Proof.Machine

/-! The 8-bit sum, and the overflow of a sum or difference by the sign bits. -/

/-- The rule's own computation of a sum's P/V (spec/43_arith8.md R230). -/
theorem add8_pv_iff_signs (x y : Byte) (c : Bool) :
    (add8 x y c).2.pv = true ↔ x.getLsbD 7 = y.getLsbD 7 ∧ (add8 x y c).1.getLsbD 7 ≠ x.getLsbD 7 := by
  simp [add8]

/-- The rule's own computation of a difference's P/V (spec/43_arith8.md R231). -/
theorem sub8_pv_iff_signs (x y : Byte) (c : Bool) :
    (sub8 x y c).2.pv = true ↔ x.getLsbD 7 ≠ y.getLsbD 7 ∧ (sub8 x y c).1.getLsbD 7 ≠ x.getLsbD 7 := by
  simp [sub8]

/-- A signed sum leaves the range of a byte exactly where the operands have the same sign and the result does not have
it. -/
theorem add8_overflow_iff (x y : Byte) (c : Bool) :
    (add8 x y c).2.pv = true ↔
      x.toInt + y.toInt + (c.toNat : Int) < -2 ^ 7 ∨ 2 ^ 7 ≤ x.toInt + y.toInt + (c.toNat : Int) := by
  have hres : (add8 x y c).1.toInt = (x.toInt + y.toInt + (c.toNat : Int)).bmod 256 := by
    simp only [add8, BitVec.toInt_eq_toNat_bmod, BitVec.toNat_ofNat, Int.bmod_def]
    omega
  have hsigns : (add8 x y c).2.pv = true ↔
      (x.toInt < 0 ↔ y.toInt < 0) ∧ ¬((add8 x y c).1.toInt < 0 ↔ x.toInt < 0) := by
    simp only [add8_pv_iff_signs, ← getLsbD_seven_iff_toInt_neg, ← Bool.eq_iff_iff, ne_eq]
  have hx := x.le_toInt
  have hx' := x.toInt_lt
  have hy := y.le_toInt
  have hy' := y.toInt_lt
  have hc := c.toNat_le
  rw [hsigns, hres, Int.bmod_def]
  omega

/-- `add8` computes the sum and its flags (spec/43_arith8.md R230). -/
theorem add8_sumRule (x y : Byte) (c : Bool) : SumRule x y c (add8 x y c).1 (add8 x y c).2 := by
  refine ⟨BitVec.toNat_ofNat _ _, getLsbD_seven_iff_toInt_neg _, beq_zero_iff_toNat_eq_zero _, ?h,
    add8_overflow_iff x y c, rfl, ?c⟩
  case h => exact decide_eq_true_iff
  case c => exact decide_eq_true_iff

/-! The bitwise operations. -/

/-- The flags the model computes for a bitwise operation's result meet the rule (spec/43_arith8.md R232). -/
theorem logicFlags_logicRule {op : Bool → Bool → Bool} {x y res : Byte} (h : Bool)
    (hbits : ∀ k < 8, res.getLsbD k = op (x.getLsbD k) (y.getLsbD k)) : LogicRule op h x y res (logicFlags h res) :=
  ⟨hbits, getLsbD_seven_iff_toInt_neg res, beq_zero_iff_toNat_eq_zero res, rfl, parity8_iff_evenOnes res, rfl, rfl⟩

theorem and8_logicRule (x y : Byte) : LogicRule (fun p q => p && q) true x y (and8 x y).1 (and8 x y).2 :=
  logicFlags_logicRule true fun _ _ => BitVec.getLsbD_and

theorem or8_logicRule (x y : Byte) : LogicRule (fun p q => p || q) false x y (or8 x y).1 (or8 x y).2 :=
  logicFlags_logicRule false fun _ _ => BitVec.getLsbD_or

theorem xor8_logicRule (x y : Byte) : LogicRule (fun p q => p != q) false x y (xor8 x y).1 (xor8 x y).2 :=
  logicFlags_logicRule false fun _ _ => BitVec.getLsbD_xor

/-- Settles O26: each function meets its rule, and the two overflows are computed from the sign bits. -/
theorem arithmeticFunctions : Obligations.ArithmeticFunctions := fun x y c =>
  ⟨add8_sumRule x y c, sub8_diffRule x y c, add8_pv_iff_signs x y c, sub8_pv_iff_signs x y c, and8_logicRule x y,
    or8_logicRule x y, xor8_logicRule x y⟩

/-! The accumulator operations: a result written to A and F, or to F alone. -/

theorem accOnValue_of_accResult {ooo : Nat} {i : Instr} {s : State} {v : Byte} {r : Byte × Flags}
    (hrule : AccRule ooo s.a v s.f.c r.1 r.2) (hexec : exec i s = .next (s.accResult r)) : AccOnValue ooo i s v :=
  ⟨_, hexec, hrule, rfl⟩

/-- CP keeps A and writes the flags of the difference (spec/43_arith8.md R269). -/
theorem accOnValue_of_compareAcc {i : Instr} {s : State} {v : Byte}
    (hexec : exec i s = .next (s.compareAcc (sub8 s.a v false))) : AccOnValue 7 i s v :=
  ⟨_, hexec, ⟨rfl, _, sub8_diffRule s.a v false⟩, rfl⟩

/-- Settles O27: each writes to A and F the result of its function (`accOnValue_of_accResult`), and CP to F alone
(`accOnValue_of_compareAcc`). -/
theorem accumulatorOnValue : Obligations.AccumulatorOnValue := by
  intro s r n
  have hadd := add8_sumRule s.a
  have hsub := sub8_diffRule s.a
  have hand := and8_logicRule s.a
  have hxor := xor8_logicRule s.a
  have hor := or8_logicRule s.a
  exact ⟨
    accOnValue_of_accResult (hadd (s.reg8 r) false) rfl, accOnValue_of_accResult (hadd n false) rfl,
    accOnValue_of_accResult (hadd (s.reg8 r) s.f.c) rfl, accOnValue_of_accResult (hadd n s.f.c) rfl,
    accOnValue_of_accResult (hsub (s.reg8 r) false) rfl, accOnValue_of_accResult (hsub n false) rfl,
    accOnValue_of_accResult (hsub (s.reg8 r) s.f.c) rfl, accOnValue_of_accResult (hsub n s.f.c) rfl,
    accOnValue_of_accResult (hand (s.reg8 r)) rfl, accOnValue_of_accResult (hand n) rfl,
    accOnValue_of_accResult (hxor (s.reg8 r)) rfl, accOnValue_of_accResult (hxor n) rfl,
    accOnValue_of_accResult (hor (s.reg8 r)) rfl, accOnValue_of_accResult (hor n) rfl,
    accOnValue_of_compareAcc rfl, accOnValue_of_compareAcc rfl⟩

theorem accOnByteAt_of_accResult {ooo : Nat} {i : Instr} {s : State} {x : Word} {r : Byte × Flags} (halone : Alone s)
    (hrule : AccRule ooo s.a (s.dataAt x).1 s.f.c r.1 r.2)
    (hexec : exec i s = .next ((s.readByte x).2.accResult r)) : AccOnByteAt ooo i s x := by
  rw [s.readByte_after x halone] at hexec
  exact ⟨_, hexec, hrule, rfl, rfl⟩

/-- CP keeps A and writes the flags of the difference (spec/43_arith8.md R271). -/
theorem accOnByteAt_of_compareAcc {i : Instr} {s : State} {x : Word} (halone : Alone s)
    (hexec : exec i s = .next ((s.readByte x).2.compareAcc (sub8 s.a (s.dataAt x).1 false))) :
    AccOnByteAt 7 i s x := by
  rw [s.readByte_after x halone] at hexec
  exact ⟨_, hexec, ⟨rfl, _, sub8_diffRule s.a (s.dataAt x).1 false⟩, rfl, rfl⟩

/-- Settles O28: each reads its operand and writes to A and F the result of its function (`accOnByteAt_of_accResult`),
and CP to F alone (`accOnByteAt_of_compareAcc`). -/
theorem accumulatorOnMemory : Obligations.AccumulatorOnMemory := by
  intro s d halone
  refine ⟨?add, ?adc, ?sub, ?sbc, ?and, ?xor, ?or, ?cp⟩
  case add | adc =>
    refine ⟨?_, ?_, ?_⟩ <;> exact accOnByteAt_of_accResult halone (add8_sumRule s.a _ _) rfl
  case sub | sbc =>
    refine ⟨?_, ?_, ?_⟩ <;> exact accOnByteAt_of_accResult halone (sub8_diffRule s.a _ _) rfl
  case and => refine ⟨?_, ?_, ?_⟩ <;> exact accOnByteAt_of_accResult halone (and8_logicRule s.a _) rfl
  case xor => refine ⟨?_, ?_, ?_⟩ <;> exact accOnByteAt_of_accResult halone (xor8_logicRule s.a _) rfl
  case or => refine ⟨?_, ?_, ?_⟩ <;> exact accOnByteAt_of_accResult halone (or8_logicRule s.a _) rfl
  case cp => refine ⟨?_, ?_, ?_⟩ <;> exact accOnByteAt_of_compareAcc halone rfl

/-! INC and DEC. -/

/-- Writing the flags changes no register. -/
theorem State.setFlags_reg8 (s : State) (fl : Byte → Flags) (q : R8) : (s.setFlags fl).reg8 q = s.reg8 q := by
  cases q <;> rfl

/-- INC and DEC of a register: the result to the register, its flags to F, C kept. -/
theorem incDecReg8_of_exec {rule : Byte → Flags → Prop} {i : Instr} {s : State} {r : R8} {p : Byte × Flags}
    (hrule : rule p.1 p.2)
    (hexec : exec i s = .next ((s.setReg8 r p.1).setFlags fun _ => keepCarry s.f.toFlags p.2)) :
    ∃ t res fl, exec i s = .next t ∧ rule res fl ∧ OnlyReg8 s t r res ∧ t.f.toFlags = { fl with c := s.f.c } ∧
      t = { s with a := t.a, b := t.b, c := t.c, d := t.d, e := t.e, h := t.h, l := t.l, f := t.f,
                   draws := t.draws } := by
  refine ⟨_, _, _, hexec, hrule, fun q => ?only, rfl, ?frame⟩
  case only => rw [State.setFlags_reg8, State.setReg8_reg8]
  case frame => rw [State.setReg8_frame]; rfl

/-- INC and DEC of a byte in memory: the byte read, its result written back, the flags to F, C kept. -/
theorem modifiesByteAt_of_stepByte {rule : Byte → Byte → Flags → Prop} {i : Instr} {s : State} {x : Word}
    {op : Byte → Byte × Flags} (halone : Alone s) (hrule : ∀ v, rule v (op v).1 (keepCarry s.f.toFlags (op v).2))
    (hexec : exec i s = .next (s.stepByte x op)) : ModifiesByteAt i s x rule := by
  have hmodify := s.modifyByte_after x (fun v => (op v).1) halone
  rw [State.stepByte, hmodify] at hexec
  exact ⟨_, _, hexec, hrule _, (storesAt_storeByte s x _).congr rfl, rfl, rfl⟩

/-- Settles O29: INC and DEC of a register by `incDecReg8_of_exec`, of each of the three memory operands by
`modifiesByteAt_of_stepByte`, with the sum or the difference with 1. -/
theorem incDecByte : Obligations.IncDecByte := by
  intro s r d
  refine ⟨incDecReg8_of_exec (add8_sumRule _ _ _) rfl, incDecReg8_of_exec (sub8_diffRule _ _ _) rfl,
    fun halone => ⟨fun p hp => ?inc, fun p hp => ?dec⟩⟩
  case inc =>
    refine modifiesByteAt_of_stepByte (op := fun v => add8 v 1 false) halone
      (fun v => ⟨_, add8_sumRule v 1 false, rfl⟩) ?_
    fin_cases hp <;> rfl
  case dec =>
    refine modifiesByteAt_of_stepByte (op := fun v => sub8 v 1 false) halone
      (fun v => ⟨_, sub8_diffRule v 1 false, rfl⟩) ?_
    fin_cases hp <;> rfl

end Sys2Proof.Machine
end

section
/-! PROOF. The family of spec/44_general_cpu_control.md: DAA by itself (R290) and after an addition or a subtraction of
packed-BCD bytes; CPL, NEG, CCF and SCF (R291 to R294); NOP, DI, EI and IM (R295, R297 to R301); HALT (R296). -/

namespace Sys2Proof.Machine

/-! Decimal adjustment. -/

/-- The correction, its two parts added (spec/44_general_cpu_control.md R290). -/
theorem daaCorrection_toNat (a : Byte) (fl : Flags) :
    (daaCorrection a fl).1.toNat =
      (if fl.h = true ∨ 9 < a.toNat % 16 then 0x06 else 0) + (if fl.c = true ∨ 0x99 < a.toNat then 0x60 else 0) := by
  simp only [daaCorrection, Bool.or_eq_true, decide_eq_true_eq, gt_iff_lt]
  split_ifs <;> rfl

/-- C is set with the correction of the high digit and kept without it (spec/44_general_cpu_control.md R290). -/
theorem daa_carry_iff (a : Byte) (fl : Flags) : (daa a fl).2 = true ↔ fl.c = true ∨ 0x99 < a.toNat := by
  simp only [daa, daaCorrection, Bool.or_eq_true, decide_eq_true_eq, gt_iff_lt]
  by_cases hhigh : fl.c = true ∨ 0x99 < a.toNat
  · rw [if_pos hhigh]
    exact iff_of_true rfl hhigh
  · rw [if_neg hhigh]
    exact (or_iff_left fun hbig => hhigh (.inr hbig)).symm

/-- The adjusted A, in integers: N says whether the correction is subtracted (spec/44_general_cpu_control.md R290). -/
theorem daa_toNat (a : Byte) (fl : Flags) :
    ((daa a fl).1.toNat : Int) =
      (if fl.n = true then (a.toNat : Int) - (daaCorrection a fl).1.toNat
        else (a.toNat : Int) + (daaCorrection a fl).1.toNat) % 256 := by
  simp only [daa]
  split_ifs
  · rw [BitVec.toNat_sub]
    omega
  · rw [BitVec.toNat_add]
    omega

/-- Settles O30: the correction in integers (`daaCorrection_toNat`, `daa_toNat`) and the carry (`daa_carry_iff`); S, Z
and P/V are computed from the adjusted A. -/
theorem decimalAdjust : Obligations.DecimalAdjust := by
  intro s
  refine ⟨_, rfl, ?adjusted, getLsbD_seven_iff_toInt_neg _, beq_zero_iff_toNat_eq_zero _, parity8_iff_evenOnes _, rfl,
    daa_carry_iff s.a s.f.toFlags, rfl⟩
  case adjusted =>
    rw [← daaCorrection_toNat s.a s.f.toFlags]
    exact daa_toNat s.a s.f.toFlags

/-! Decimal arithmetic: the digits of packed-BCD bytes, and which of them DAA corrects after a sum or a difference. -/

/-- The two digits of a packed-BCD byte. -/
theorem PackedDecimal.exists_digits {v : Byte} (h : PackedDecimal v) :
    ∃ tens ≤ 9, ∃ units ≤ 9, v.toNat = 16 * tens + units ∧ decimalOf v = 10 * tens + units :=
  ⟨_, h.1, _, h.2, (Nat.div_add_mod _ 16).symm, rfl⟩

/-- A byte made of two decimal digits is packed BCD and has their value. -/
theorem packedDecimal_of_digits {v : Byte} {tens units : Nat} (htens : tens ≤ 9) (hunits : units ≤ 9)
    (hv : v.toNat = 16 * tens + units) : PackedDecimal v ∧ decimalOf v = 10 * tens + units := by
  unfold PackedDecimal decimalOf
  omega

/-- After the sum of two packed-BCD bytes DAA corrects the units where they carry, and the tens where the decimal sum
does: the digits are those of the decimal sum. In the proof k is the carry out of the units and m the decimal carry, so
that the correction is 6 * k + 96 * m. -/
theorem daa_of_sumRule {x y res : Byte} {c : Bool} {fl : Flags} (hx : PackedDecimal x) (hy : PackedDecimal y)
    (hsum : SumRule x y c res fl) :
    PackedDecimal (daa res fl).1 ∧
      decimalOf (daa res fl).1 = (decimalOf x + decimalOf y + c.toNat) % 100 ∧
      ((daa res fl).2 = true ↔ 100 ≤ decimalOf x + decimalOf y + c.toNat) := by
  obtain ⟨hres, -, -, hh, -, hn, hc⟩ := hsum
  obtain ⟨xt, hxt, xu, hxu, hxv, hxd⟩ := hx.exists_digits
  obtain ⟨yt, hyt, yu, hyu, hyv, hyd⟩ := hy.exists_digits
  have hbit := c.toNat_le
  have hlow : (fl.h = true ∨ 9 < res.toNat % 16) ↔ 10 ≤ xu + yu + c.toNat := by
    rw [hh]
    omega
  have hhigh : (fl.c = true ∨ 0x99 < res.toNat) ↔ 100 ≤ decimalOf x + decimalOf y + c.toNat := by
    rw [hc]
    omega
  have hresInt : (res.toNat : Int) = ((x.toNat : Int) + y.toNat + c.toNat) % 256 := by omega
  have hadjusted := daa_toNat res fl
  simp only [hn, Bool.false_eq_true, if_false, hresInt, Int.emod_add_emod, daaCorrection_toNat, hlow, hhigh]
    at hadjusted
  refine and_assoc.mp ⟨?digits, (daa_carry_iff res fl).trans hhigh⟩
  clear hh hc hlow hhigh
  obtain ⟨k, hk, hunits⟩ : ∃ k, (if 10 ≤ xu + yu + c.toNat then 0x06 else 0) = 6 * k ∧
      10 * k ≤ xu + yu + c.toNat ∧ xu + yu + c.toNat ≤ 10 * k + 9 := by
    split_ifs
    exacts [⟨1, by omega⟩, ⟨0, by omega⟩]
  obtain ⟨m, hm, htens⟩ : ∃ m, (if 100 ≤ decimalOf x + decimalOf y + c.toNat then 0x60 else 0) = 96 * m ∧
      10 * m ≤ xt + yt + k ∧ xt + yt + k ≤ 10 * m + 9 := by
    split_ifs
    exacts [⟨1, by omega⟩, ⟨0, by omega⟩]
  rw [hk, hm] at hadjusted
  obtain ⟨hpacked, hvalue⟩ := packedDecimal_of_digits (v := (daa res fl).1) (tens := xt + yt + k - 10 * m)
    (units := xu + yu + c.toNat - 10 * k) (by omega) (by omega) (by omega)
  exact ⟨hpacked, by omega⟩

/-- After the difference of two packed-BCD bytes DAA corrects the units where they borrow, and the tens where the
decimal difference does: the digits are those of the decimal difference. In the proof k is the borrow of the units and m
the decimal borrow, so that the correction is 6 * k + 96 * m. -/
theorem daa_of_diffRule {x y res : Byte} {c : Bool} {fl : Flags} (hx : PackedDecimal x) (hy : PackedDecimal y)
    (hdiff : DiffRule x y c res fl) :
    PackedDecimal (daa res fl).1 ∧
      decimalOf (daa res fl).1 = (decimalOf x + 100 - decimalOf y - c.toNat) % 100 ∧
      ((daa res fl).2 = true ↔ decimalOf x < decimalOf y + c.toNat) := by
  obtain ⟨hres, -, -, hh, -, hn, hc⟩ := hdiff
  obtain ⟨xt, hxt, xu, hxu, hxv, hxd⟩ := hx.exists_digits
  obtain ⟨yt, hyt, yu, hyu, hyv, hyd⟩ := hy.exists_digits
  have hbit := c.toNat_le
  have hlow : (fl.h = true ∨ 9 < res.toNat % 16) ↔ xu < yu + c.toNat := by
    rw [hh]
    omega
  have hhigh : (fl.c = true ∨ 0x99 < res.toNat) ↔ decimalOf x < decimalOf y + c.toNat := by
    rw [hc]
    omega
  have hadjusted := daa_toNat res fl
  simp only [hn, if_true, hres, Int.reducePow, Int.emod_sub_emod, daaCorrection_toNat, hlow, hhigh] at hadjusted
  refine and_assoc.mp ⟨?digits, (daa_carry_iff res fl).trans hhigh⟩
  clear hh hc hlow hhigh
  obtain ⟨k, hk, hunits⟩ : ∃ k, (if xu < yu + c.toNat then 0x06 else 0) = 6 * k ∧
      yu + c.toNat ≤ xu + 10 * k ∧ xu + 10 * k ≤ yu + c.toNat + 9 := by
    split_ifs
    exacts [⟨1, by omega⟩, ⟨0, by omega⟩]
  obtain ⟨m, hm, htens⟩ : ∃ m, (if decimalOf x < decimalOf y + c.toNat then 0x60 else 0) = 96 * m ∧
      yt + k ≤ xt + 10 * m ∧ xt + 10 * m ≤ yt + k + 9 := by
    split_ifs
    exacts [⟨1, by omega⟩, ⟨0, by omega⟩]
  rw [hk, hm] at hadjusted
  obtain ⟨hpacked, hvalue⟩ := packedDecimal_of_digits (v := (daa res fl).1) (tens := xt + 10 * m - (yt + k))
    (units := xu + 10 * k - (yu + c.toNat)) (by omega) (by omega) (by omega)
  exact ⟨hpacked, by omega⟩

/-- Settles O31: ADC and SBC leave in A and F a sum and a difference by their rules (`add8_sumRule`, `sub8_diffRule`),
which DAA makes decimal (`daa_of_sumRule`, `daa_of_diffRule`). -/
theorem decimalArithmetic : Obligations.DecimalArithmetic := fun s n hx hy =>
  ⟨⟨_, _, rfl, rfl, daa_of_sumRule hx hy (add8_sumRule s.a n s.f.c)⟩,
    ⟨_, _, rfl, rfl, daa_of_diffRule hx hy (sub8_diffRule s.a n s.f.c)⟩⟩

/-! A and the carry. -/

/-- Settles O32: CPL and NEG write A and F, with the flags of `sub8_diffRule` for NEG; CCF and SCF write F alone. -/
theorem accumulatorAndCarry : Obligations.AccumulatorAndCarry := by
  intro s
  refine ⟨?cpl, ?neg, ?ccf, ?scf⟩
  case cpl => exact ⟨_, rfl, BitVec.toNat_not, rfl, rfl⟩
  case neg => exact ⟨_, rfl, sub8_diffRule 0 s.a false, rfl⟩
  case ccf => exact ⟨_, rfl, rfl, rfl⟩
  case scf => exact ⟨_, rfl, rfl, rfl⟩

/-! Control. -/

/-- Settles O33: each writes the fields it names. At the sampling point that ends it (`State.sample_none`) DI has
cleared IFF1, and EI has set ei_shadow (spec/60_exceptions.md R455). -/
theorem controlInstructions : Obligations.ControlInstructions := by
  intro s
  refine ⟨?nop, ?di, ?ei, ?im0, ?im1, ?im2⟩
  case nop => exact ⟨_, rfl, rfl⟩
  case di => exact ⟨_, rfl, rfl, rfl, rfl, fun hnmi => State.sample_none _ _ hnmi (.inr (.inl rfl))⟩
  case ei => exact ⟨_, rfl, rfl, rfl, rfl, rfl, fun hnmi => State.sample_none _ _ hnmi (.inr (.inr rfl))⟩
  case im0 | im1 | im2 => exact ⟨_, rfl, rfl, rfl⟩

/-- Each clock state of a halt belongs to one setting of the two pins (spec/60_exceptions.md Table R466). -/
theorem haltClock_iff (ms1 ms2 : Bool) :
    (haltClock ms1 ms2 = .running ↔ ms1 = true ∧ ms2 = true) ∧
    (haltClock ms1 ms2 = .idle1 ↔ ms1 = false ∧ ms2 = false) ∧
    (haltClock ms1 ms2 = .idle2 ↔ ms1 = false ∧ ms2 = true) ∧
    (haltClock ms1 ms2 = .stopped ↔ ms1 = true ∧ ms2 = false) := by
  cases ms1 <;> cases ms2 <;> decide

/-- Settles O34: HALT writes `halted` and the clock state that the pins select (`haltClock_iff`). -/
theorem haltEntersMode : Obligations.HaltEntersMode := by
  intro s
  obtain ⟨hrun, hidle1, hidle2, hstop⟩ := haltClock_iff s.pins.ms1 s.pins.ms2
  exact ⟨_, rfl, rfl, hrun, hidle1, hidle2, hstop, rfl⟩

end Sys2Proof.Machine
end

section
/-! PROOF. The family of spec/45_arith16.md: the functions add16 and sub16 (R310), ADD of a pair to HL, IX or IY, ADC and
SBC of HL (R311 to R315), and INC and DEC of a pair (R316 to R321). -/

namespace Sys2Proof.Machine

/-! The 16-bit sum. -/

/-- The top bit of a bit vector is its sign (spec/00_scope.md R7). -/
theorem getLsbD_last_iff_toInt_neg {w : Nat} (v : BitVec w) : v.getLsbD (w - 1) = true ↔ v.toInt < 0 := by
  rw [← BitVec.msb_eq_getLsbD_last, BitVec.msb_eq_toInt, decide_eq_true_iff]

theorem word_beq_zero_iff_toNat_eq_zero (v : Word) : (v == 0) = true ↔ v.toNat = 0 := by
  rw [beq_iff_eq, BitVec.toNat_eq]
  rfl

/-- The rule's own computation of a sum's P/V (spec/45_arith16.md R310). -/
theorem add16_pv_iff_signs (x y : Word) (c : Bool) :
    (add16 x y c).2.pv = true ↔ x.getLsbD 15 = y.getLsbD 15 ∧ (add16 x y c).1.getLsbD 15 ≠ x.getLsbD 15 := by
  simp [add16]

/-- A signed sum leaves the range of a word exactly where the operands have the same sign and the result does not have
it. -/
theorem add16_overflow_iff (x y : Word) (c : Bool) :
    (add16 x y c).2.pv = true ↔
      x.toInt + y.toInt + (c.toNat : Int) < -2 ^ 15 ∨ 2 ^ 15 ≤ x.toInt + y.toInt + (c.toNat : Int) := by
  have hres : (add16 x y c).1.toInt = (x.toInt + y.toInt + (c.toNat : Int)).bmod 65536 := by
    simp only [add16, BitVec.toInt_eq_toNat_bmod, BitVec.toNat_ofNat, Int.bmod_def]
    omega
  have hsigns : (add16 x y c).2.pv = true ↔
      (x.toInt < 0 ↔ y.toInt < 0) ∧ ¬((add16 x y c).1.toInt < 0 ↔ x.toInt < 0) := by
    simp only [add16_pv_iff_signs, ← getLsbD_last_iff_toInt_neg, ← Bool.eq_iff_iff, ne_eq]
  have hx := x.le_toInt
  have hx' := x.toInt_lt
  have hy := y.le_toInt
  have hy' := y.toInt_lt
  have hc := c.toNat_le
  rw [hsigns, hres, Int.bmod_def]
  omega

/-- `add16` computes the sum and its flags (spec/45_arith16.md R310). -/
theorem add16_sumRule (x y : Word) (c : Bool) : SumRule x y c (add16 x y c).1 (add16 x y c).2 := by
  refine ⟨BitVec.toNat_ofNat _ _, getLsbD_last_iff_toInt_neg _, word_beq_zero_iff_toNat_eq_zero _, ?h,
    add16_overflow_iff x y c, rfl, ?c⟩
  case h => exact decide_eq_true_iff
  case c => exact decide_eq_true_iff

/-! The 16-bit difference: the sum with the complement of the subtrahend and of the borrow. -/

/-- The difference is the sum with the complements. -/
theorem sub16_fst_eq_add16_not (x y : Word) (c : Bool) : (sub16 x y c).1 = (add16 x (~~~y) (!c)).1 := by
  have hy := y.isLt
  have hc : (!c).toNat = 1 - c.toNat := by cases c <;> rfl
  have hc' := c.toNat_le
  rw [← BitVec.toNat_inj]
  simp only [sub16, add16, BitVec.toNat_ofInt, BitVec.toNat_ofNat, BitVec.toNat_not, hc]
  omega

/-- The rule's own computation of a difference's P/V (spec/45_arith16.md R310). -/
theorem sub16_pv_iff_signs (x y : Word) (c : Bool) :
    (sub16 x y c).2.pv = true ↔ x.getLsbD 15 ≠ y.getLsbD 15 ∧ (sub16 x y c).1.getLsbD 15 ≠ x.getLsbD 15 := by
  simp [sub16]

/-- The difference overflows where the sum with the complements does. -/
theorem sub16_pv_eq_add16_not (x y : Word) (c : Bool) : (sub16 x y c).2.pv = (add16 x (~~~y) (!c)).2.pv := by
  have hsign : (~~~y).getLsbD 15 = !y.getLsbD 15 := by simp
  rw [Bool.eq_iff_iff, sub16_pv_iff_signs, add16_pv_iff_signs, sub16_fst_eq_add16_not, hsign, Bool.eq_not]

/-- A signed difference leaves the range of a word exactly where its P/V says so. -/
theorem sub16_overflow_iff (x y : Word) (c : Bool) :
    (sub16 x y c).2.pv = true ↔
      x.toInt - y.toInt - (c.toNat : Int) < -2 ^ 15 ∨ 2 ^ 15 ≤ x.toInt - y.toInt - (c.toNat : Int) := by
  have hcompl : x.toInt + (~~~y).toInt + ((!c).toNat : Int) = x.toInt - y.toInt - (c.toNat : Int) := by
    have hy : (~~~y).toInt = -1 - y.toInt := by
      rw [BitVec.toInt_not, y.toInt_eq_toNat_bmod, Int.bmod_def, Int.bmod_def]
      omega
    have hc : ((!c).toNat : Int) = 1 - (c.toNat : Int) := by cases c <;> rfl
    omega
  rw [sub16_pv_eq_add16_not, add16_overflow_iff, hcompl]

/-- `sub16` computes the difference and its flags (spec/45_arith16.md R310). -/
theorem sub16_diffRule (x y : Word) (c : Bool) : DiffRule x y c (sub16 x y c).1 (sub16 x y c).2 := by
  refine ⟨?res, getLsbD_last_iff_toInt_neg _, word_beq_zero_iff_toNat_eq_zero _, ?h, sub16_overflow_iff x y c, rfl, ?c⟩
  case res =>
    simp only [sub16, BitVec.toNat_ofInt]
    omega
  case h =>
    simp only [sub16, decide_eq_true_eq]
    omega
  case c =>
    simp only [sub16, decide_eq_true_eq]
    omega

/-! ADD, ADC and SBC of pairs. -/

/-- HL after a 16-bit result and its flags are written. -/
theorem State.setHL_setFlags_hl (s : State) (v : Word) (fl : Byte → Flags) : ((s.setHL v).setFlags fl).hl = v :=
  s.setHL_hl v

/-- Settles O35: each writes to its pair a result that `add16_sumRule` or `sub16_diffRule` describes, and to F its
flags: H, N and C of them for ADD, all six for ADC and SBC. -/
theorem addSubPairs : Obligations.AddSubPairs := by
  intro s
  refine ⟨fun dd => ?addHl, fun pp => ?addIx, fun rr => ?addIy, fun dd => ?adcHl, fun dd => ?sbcHl⟩
  case addHl =>
    refine ⟨_, (add16 s.hl (s.regDD dd) false).2, rfl, ?_, rfl, rfl⟩
    rw [State.addToPair, State.setHL_setFlags_hl]
    exact add16_sumRule _ _ _
  case addIx => exact ⟨_, _, rfl, add16_sumRule s.ix (s.regPP pp) false, rfl, rfl⟩
  case addIy => exact ⟨_, _, rfl, add16_sumRule s.iy (s.regRR rr) false, rfl, rfl⟩
  case adcHl =>
    refine ⟨_, rfl, ?_, rfl⟩
    rw [State.setHL_setFlags_hl]
    exact add16_sumRule _ _ _
  case sbcHl =>
    refine ⟨_, rfl, ?_, rfl⟩
    rw [State.setHL_setFlags_hl]
    exact sub16_diffRule _ _ _

/-! INC and DEC of pairs. -/

theorem word_toNat_add_one (v : Word) : (v + 1).toNat = (v.toNat + 1) % 65536 := BitVec.toNat_add v 1

theorem word_toNat_sub_one (v : Word) : (v - 1).toNat = (v.toNat + 65535) % 65536 := by
  rw [BitVec.toNat_sub, Nat.add_comm]
  rfl

/-- A pair of BC, DE, HL and SP written: the other three and every other field keep their values. -/
theorem writesRegDD_of_exec {i : Instr} {s : State} {dd : RegDD} {v : Word} {n : Nat} (hv : v.toNat = n)
    (hexec : exec i s = .next (s.setRegDD dd v)) :
    ∃ t, exec i s = .next t ∧ (t.regDD dd).toNat = n ∧ (∀ q, q ≠ dd → t.regDD q = s.regDD q) ∧
      t = { s with b := t.b, c := t.c, d := t.d, e := t.e, h := t.h, l := t.l, sp := t.sp } := by
  refine ⟨_, hexec, ?written, fun q hq => ?others, s.setRegDD_frame dd v⟩
  case written => rw [State.regDD_setRegDD, if_pos rfl, hv]
  case others => rw [State.regDD_setRegDD, if_neg hq]

/-- Settles O36: each writes to its pair the old word plus or minus 1 (`word_toNat_add_one`, `word_toNat_sub_one`); of
BC, DE, HL and SP that leaves the other three (`writesRegDD_of_exec`). -/
theorem incDecPairs : Obligations.IncDecPairs := fun s =>
  ⟨fun dd => writesRegDD_of_exec (word_toNat_add_one (s.regDD dd)) rfl,
    fun dd => writesRegDD_of_exec (word_toNat_sub_one (s.regDD dd)) rfl,
    ⟨_, rfl, word_toNat_add_one s.ix, rfl⟩, ⟨_, rfl, word_toNat_add_one s.iy, rfl⟩,
    ⟨_, rfl, word_toNat_sub_one s.ix, rfl⟩, ⟨_, rfl, word_toNat_sub_one s.iy, rfl⟩⟩

end Sys2Proof.Machine
end

section
/-! PROOF. The family of spec/46_rotate_shift.md: the shifts and rotates of Table R330 and their flags (R331), of A, of a
register and of a byte in memory (R332 to R363), and the rotation of three digits (R364, R365). -/

namespace Sys2Proof.Machine

/-! Bit fields in integers. -/

theorem append_toNat {m n : Nat} (x : BitVec m) (y : BitVec n) : (x ++ y).toNat = 2 ^ n * x.toNat + y.toNat := by
  rw [BitVec.toNat_append, ← Nat.shiftLeft_add_eq_or_of_lt y.isLt, Nat.shiftLeft_eq, Nat.mul_comm]

theorem extractLsb'_toNat_eq_div_mod {w : Nat} (start len : Nat) (v : BitVec w) :
    (v.extractLsb' start len).toNat = v.toNat / 2 ^ start % 2 ^ len := by
  rw [BitVec.extractLsb'_toNat, Nat.shiftRight_eq_div_pow]

/-- The bit of a byte that leaves to the left. -/
theorem getLsbD_seven_iff_le_toNat (v : Byte) : v.getLsbD 7 = true ↔ 128 ≤ v.toNat := by
  rw [← decide_eq_true_iff (p := 128 ≤ v.toNat), ← BitVec.msb_eq_getLsbD_last v, BitVec.msb_eq_decide]

/-- The bit of a byte that leaves to the right. -/
theorem getLsbD_zero_iff_toNat_odd (v : Byte) : v.getLsbD 0 = true ↔ v.toNat % 2 = 1 := by
  rw [BitVec.getLsbD, Nat.testBit_zero, decide_eq_true_iff]

/-! The rows of Table R330, and the flags. -/

/-- The model's operation for the row ooo of Table R330, the carry before being cin. -/
def shiftOp (ooo : Nat) (cin : Bool) : Byte → Byte × Bool :=
  match ooo with
  | 0 => rlc
  | 1 => rrc
  | 2 => rl cin
  | 3 => rr cin
  | 4 => sla
  | 5 => sra
  | _ => srl

/-- Each operation meets its row. Rows 0, 2 and 4 move the byte to the left, so that bit 7 leaves it; the others move it
to the right, so that bit 0 does. -/
theorem shiftOp_shiftRule (ooo : Nat) (cin : Bool) (v : Byte) :
    ShiftRule ooo v cin (shiftOp ooo cin v).1 (shiftOp ooo cin v).2 := by
  have hv := v.isLt
  match ooo with
  | 0 | 2 | 4 =>
    refine ⟨?_, getLsbD_seven_iff_le_toNat v⟩
    simp only [shiftOp, rlc, rl, sla, append_toNat, extractLsb'_toNat_eq_div_mod, BitVec.toNat_ofBool,
      BitVec.toNat_ofNat]
    omega
  | 1 | 3 | 5 | _ + 6 =>
    refine ⟨?_, getLsbD_zero_iff_toNat_odd v⟩
    simp only [shiftOp, rrc, rr, sra, srl, append_toNat, extractLsb'_toNat_eq_div_mod, BitVec.toNat_ofBool,
      BitVec.toNat_ofNat]
    omega

/-- The flags the model computes for a shifted byte meet the rule (spec/46_rotate_shift.md R331). -/
theorem shiftFlags_shiftFlagsRule (p : Byte × Bool) : ShiftFlagsRule p.1 p.2 (shiftFlags p) :=
  ⟨getLsbD_seven_iff_toInt_neg p.1, beq_zero_iff_toNat_eq_zero p.1, rfl, parity8_iff_evenOnes p.1, rfl, rfl⟩

/-! Shifts of a register. -/

/-- Of the general registers a shift changes the one it shifts. -/
theorem State.shiftReg_onlyReg8 (s : State) (r : R8) (op : Byte → Byte × Bool) :
    OnlyReg8 s (s.shiftReg r op) r (op (s.reg8 r)).1 := by
  intro q
  rw [State.shiftReg, State.setFlags_reg8, State.setReg8_reg8]

/-- A shift of a register touches the seven general registers, F and the free byte for F alone. -/
theorem State.shiftReg_frame (s : State) (r : R8) (op : Byte → Byte × Bool) :
    s.shiftReg r op = { s with
      a := (s.shiftReg r op).a, b := (s.shiftReg r op).b, c := (s.shiftReg r op).c, d := (s.shiftReg r op).d,
      e := (s.shiftReg r op).e, h := (s.shiftReg r op).h, l := (s.shiftReg r op).l, f := (s.shiftReg r op).f,
      draws := (s.shiftReg r op).draws } := by
  rw [State.shiftReg, State.setReg8_frame]
  rfl

/-- Settles O37: each of the eleven executes the operation of its row (`shiftOp`), on A with H, N and C written, or on
a register with all six flags. -/
theorem rotateAndShiftRegister : Obligations.RotateAndShiftRegister := by
  refine fun s r => ⟨fun p hp => ?acc, fun p hp => ?reg⟩
  case acc =>
    have hexec : exec p.2 s = .next (s.rotateAcc (shiftOp p.1 s.f.c s.a)) := by fin_cases hp <;> rfl
    exact ⟨_, hexec, shiftOp_shiftRule p.1 s.f.c s.a, rfl, rfl⟩
  case reg =>
    have hexec : exec p.2 s = .next (s.shiftReg r (shiftOp p.1 s.f.c)) := by fin_cases hp <;> rfl
    exact ⟨_, _, hexec, shiftOp_shiftRule p.1 s.f.c (s.reg8 r), shiftFlags_shiftFlagsRule _, s.shiftReg_onlyReg8 r _,
      s.shiftReg_frame r _⟩

/-! Shifts of a byte in memory. -/

/-- The byte read, its row's result written back, the flags to F. -/
theorem modifiesByteAt_of_shiftByte {ooo : Nat} {i : Instr} {s : State} {x : Word} (halone : Alone s)
    (hexec : exec i s = .next (s.shiftByte x (shiftOp ooo s.f.c))) :
    ModifiesByteAt i s x fun v res g => ShiftRule ooo v s.f.c res g.c ∧ ShiftFlagsRule res g.c g := by
  have hmodify := s.modifyByte_after x (fun v => (shiftOp ooo s.f.c v).1) halone
  rw [State.shiftByte, hmodify] at hexec
  exact ⟨_, _, hexec, ⟨shiftOp_shiftRule ooo s.f.c _, shiftFlags_shiftFlagsRule _⟩,
    (storesAt_storeByte s x _).congr rfl, rfl, rfl⟩

/-- Settles O38: each of the twenty-one executes the operation of its row (`shiftOp`) on its memory operand
(`modifiesByteAt_of_shiftByte`). -/
theorem shiftMemory : Obligations.ShiftMemory := by
  intro s d halone
  refine ⟨fun p hp => ?atHl, fun p hp => ?atIx, fun p hp => ?atIy⟩
  case atHl | atIx | atIy =>
    refine modifiesByteAt_of_shiftByte halone ?_
    fin_cases hp <;> rfl

/-! The rotation of three digits. -/

/-- The flags of RLD and RRD: those of the new A, with its parity (spec/46_rotate_shift.md R364). -/
theorem loadedFlags_parity8_loadedRule (old : Flags) (v : Byte) :
    LoadedRule old v (EvenOnes v) (loadedFlags old v (parity8 v)) := by
  rw [← parity8_iff_evenOnes]
  exact loadedFlags_loadedRule old v (parity8 v)

/-- RLD and RRD, by the number of the byte they write back and of the digit they move to A. -/
theorem rotatesDigits_of_exec {i : Instr} {s : State} {mem : Byte → Byte} {low : Byte → BitVec 4} {m n : Nat}
    (halone : Alone s) (hmem : (mem (s.dataAt s.hl).1).toNat = m) (hlow : (low (s.dataAt s.hl).1).toNat = n)
    (hexec : exec i s = .next (s.rotateDigits mem low)) :
    ∃ t res, exec i s = .next t ∧ StoresAt s t [(s.hl, res)] ∧ res.toNat = m ∧
      t.a.toNat = 16 * (s.a.toNat / 16) + n ∧ LoadedRule s.f.toFlags t.a (EvenOnes t.a) t.f.toFlags ∧
      t = { s with a := t.a, f := t.f, mem := t.mem, dataIn := t.dataIn, draws := t.draws, trace := t.trace } := by
  have hmodify := s.modifyByte_after s.hl mem halone
  rw [State.rotateDigits, hmodify] at hexec
  refine ⟨_, _, hexec, (storesAt_storeByte s s.hl _).congr rfl, hmem, ?newA, loadedFlags_parity8_loadedRule _ _, rfl⟩
  case newA =>
    have ha := s.a.isLt
    simp only [State.setFlags_a, append_toNat, extractLsb'_toNat_eq_div_mod, State.readByte_fst, hlow]
    omega

/-- Settles O39: both by `rotatesDigits_of_exec`, with the digits written back and moved to A in integers. -/
theorem rotateDigits : Obligations.RotateDigits := by
  intro s halone
  have hv := (s.dataAt s.hl).1.isLt
  refine ⟨rotatesDigits_of_exec halone ?rldMem ?rldLow rfl, rotatesDigits_of_exec halone ?rrdMem ?rrdLow rfl⟩
  case rldMem | rldLow | rrdMem | rrdLow =>
    simp only [append_toNat, extractLsb'_toNat_eq_div_mod]
    omega

end Sys2Proof.Machine
end

section
/-! PROOF. The family of spec/47_bit.md: the test of a bit of a register or of a byte in memory (R380 to R383), and its
setting and resetting (R384 to R391). -/

namespace Sys2Proof.Machine

/-! One bit of a byte. -/

/-- The mask of bit b holds that bit alone. -/
theorem bitMask_getLsbD (b : Nat) {k : Nat} (hk : k < 8) : (bitMask b).getLsbD k = decide (k = b) := by
  rw [bitMask, BitVec.getLsbD_shiftLeft, BitVec.getLsbD_one, Bool.eq_iff_iff]
  simp only [Bool.and_eq_true, Bool.not_eq_true', decide_eq_true_eq, decide_eq_false_iff_not]
  omega

theorem setBit_getLsbD (b : Nat) (v : Byte) {k : Nat} (hk : k < 8) :
    (setBit b v).getLsbD k = if k = b then true else v.getLsbD k := by
  rw [setBit, BitVec.getLsbD_or, bitMask_getLsbD b hk]
  by_cases h : k = b <;> simp [h]

theorem resBit_getLsbD (b : Nat) (v : Byte) {k : Nat} (hk : k < 8) :
    (resBit b v).getLsbD k = if k = b then false else v.getLsbD k := by
  rw [resBit, BitVec.getLsbD_and, BitVec.getLsbD_not, bitMask_getLsbD b hk]
  by_cases h : k = b <;> simp [h, hk]

/-! The test of a bit. -/

/-- Z as BIT writes it: the complement of the bit. -/
theorem bitFlags_z_iff (old : Flags) (bit : Bool) (u : Byte) : (bitFlags old bit u).z = true ↔ bit = false :=
  iff_of_eq (Bool.not_eq_true' bit)

/-- Settles O40: the flags are `bitFlags`; in memory the byte is read (`State.readByte_after`) and not written. -/
theorem testBit : Obligations.TestBit := by
  intro s b r d
  refine ⟨⟨_, rfl, bitFlags_z_iff _ _ _, rfl, rfl, rfl, rfl⟩, fun halone p hp => ?atByte⟩
  case atByte =>
    have hexec : exec p.1 s =
        .next ((s.readByte p.2).2.setFlags (bitFlags s.f.toFlags ((s.readByte p.2).1.getLsbD b))) := by
      fin_cases hp <;> rfl
    rw [s.readByte_after p.2 halone] at hexec
    exact ⟨_, hexec, bitFlags_z_iff _ _ _, rfl, rfl, rfl, rfl, rfl⟩

/-! The setting and resetting of a bit. -/

/-- From v to res the bit b becomes `bit`, and no other changes. -/
def WritesBit (b : Nat) (bit : Bool) (v res : Byte) : Prop :=
  ∀ k < 8, res.getLsbD k = if k = b then bit else v.getLsbD k

theorem setBit_writesBit (b : Nat) (v : Byte) : WritesBit b true v (setBit b v) := fun _ hk => setBit_getLsbD b v hk

theorem resBit_writesBit (b : Nat) (v : Byte) : WritesBit b false v (resBit b v) := fun _ hk => resBit_getLsbD b v hk

/-- A bit of a byte in memory: the byte read, and written back with the bit changed. -/
theorem writesBitAt_of_modifyByte {b : Nat} {bit : Bool} {i : Instr} {s : State} {x : Word} {g : Byte → Byte}
    (halone : Alone s) (hg : ∀ v, WritesBit b bit v (g v)) (hexec : exec i s = .next (s.modifyByte x g)) :
    ∃ t v, exec i s = .next t ∧ WritesBit b bit (s.dataAt x).1 v ∧ StoresAt s t [(x, v)] ∧
      t.trace = .memWrite x v :: .memRead x (s.dataAt x).1 :: s.trace ∧
      t = { s with mem := t.mem, dataIn := t.dataIn, draws := t.draws, trace := t.trace } := by
  rw [s.modifyByte_after x g halone] at hexec
  exact ⟨_, _, hexec, hg _, (storesAt_storeByte s x _).congr rfl, rfl, rfl⟩

/-- Settles O41: SET and RES of a register write it alone (`setsReg8_of_exec`), those of a byte in memory are
`writesBitAt_of_modifyByte`. -/
theorem setAndResetBit : Obligations.SetAndResetBit := by
  intro s b r d
  refine ⟨⟨_, setBit_writesBit b _, setsReg8_of_exec rfl⟩, ⟨_, resBit_writesBit b _, setsReg8_of_exec rfl⟩,
    fun halone => ⟨fun p hp => ?set, fun p hp => ?res⟩⟩
  case set =>
    refine writesBitAt_of_modifyByte halone (setBit_writesBit b) ?_
    fin_cases hp <;> rfl
  case res =>
    refine writesBitAt_of_modifyByte halone (resBit_writesBit b) ?_
    fin_cases hp <;> rfl

end Sys2Proof.Machine
end

section
/-! PROOF. The family of spec/48_jump_call_return.md: the absolute jumps (R400, R401, R407 to R409), the relative jumps
and DJNZ (R402 to R406, R410), the calls (R411, R412, R417) and the returns (R413 to R416). -/

namespace Sys2Proof.Machine

/-! Absolute jumps. -/

/-- A jump under a condition changes PC alone. -/
theorem jumpsIf_of_exec {i : Instr} {s : State} {p : Prop} [Decidable p] {target : Word}
    (hexec : exec i s = .next (if p then { s with pc := target } else s)) :
    ∃ t, exec i s = .next t ∧ t.pc = (if p then target else s.pc) ∧ t = { s with pc := t.pc } := by
  refine ⟨_, hexec, ?_, ?_⟩ <;> split <;> rfl

/-- Settles O42: each writes PC alone, JP cc where its condition holds (`jumpsIf_of_exec`). -/
theorem jumpAbsolute : Obligations.JumpAbsolute := fun s _ _ =>
  ⟨⟨_, rfl, rfl, rfl⟩, jumpsIf_of_exec rfl, ⟨_, rfl, joinBytes_toNat s.h s.l, rfl⟩, ⟨_, rfl, rfl, rfl⟩,
    ⟨_, rfl, rfl, rfl⟩⟩

/-! Relative jumps. -/

/-- The signed displacement added to PC, in integers (spec/30_encoding.md R123). -/
theorem jumpRel_pc_eq_jumpTarget (s : State) (e : Byte) : s.pc + sext16 e = jumpTarget s e := by
  have hsum := add_sext16_toNat s.pc e
  apply BitVec.eq_of_toNat_eq
  rw [jumpTarget, BitVec.toNat_ofInt]
  omega

theorem State.jumpRel_eq (s : State) (e : Byte) : s.jumpRel e = { s with pc := jumpTarget s e } := by
  rw [State.jumpRel, jumpRel_pc_eq_jumpTarget]

/-- DJNZ's count reaches 0 where B was 1. -/
theorem sub_one_eq_zero_iff (b : Byte) : b - 1 = 0 ↔ b.toNat = 1 := by
  bv_omega

/-- Settles O43: JR goes to its target (`State.jumpRel_eq`), the four conditional ones where their condition holds, DJNZ
unless B was 1. -/
theorem jumpRelative : Obligations.JumpRelative := by
  intro s e
  refine ⟨⟨_, congrArg Host.Outcome.next (s.jumpRel_eq e), rfl, rfl⟩, fun p hp => ?cc, ?djnz⟩
  case cc =>
    have hexec : exec p.2 s = .next (if condHolds s.f.toFlags p.1 then s.jumpRel e else s) := by
      fin_cases hp <;> rfl
    rw [State.jumpRel_eq] at hexec
    exact jumpsIf_of_exec hexec
  case djnz =>
    have hb : (s.b - 1).toNat = (s.b.toNat + 255) % 256 := by bv_omega
    have hexec : exec (.djnzE e) s =
        .next { s with b := s.b - 1, pc := if s.b.toNat = 1 then s.pc else jumpTarget s e } := by
      show Host.Outcome.next _ = _
      simp only [sub_one_eq_zero_iff, State.jumpRel, jumpRel_pc_eq_jumpTarget]
      split <;> rfl
    exact ⟨_, hexec, hb, rfl, rfl⟩

/-! Calls. -/

/-- Settles O44: each is `State.callTo`, which pushes PC (`State.callTo_pushesTo`). -/
theorem callPushesReturn : Obligations.CallPushesReturn := by
  intro s halone
  have hcall := fun target => s.callTo_pushesTo target halone
  refine ⟨fun nn => ⟨_, rfl, hcall nn⟩, fun cc nn => ⟨_, rfl, ?cc⟩, fun p => ⟨_, rfl, ?rst⟩⟩
  case cc =>
    split
    · exact hcall nn
    · rfl
  case rst => rw [BitVec.ofNat_toNat]; exact hcall (zext16 p)

/-! Returns. -/

/-- RETI leaves IFF1 where it equals IFF2 (spec/48_jump_call_return.md R415). -/
theorem State.returnFromInt_after (s : State) (halone : Alone s) :
    s.returnFromInt = { s with
      pc := s.pop16.1, sp := s.sp + 2, iff1 := s.returnFromInt.iff1, dataIn := s.returnFromInt.dataIn,
      draws := s.returnFromInt.draws, trace := s.returnFromInt.trace } ∧
    (s.iff1 = s.iff2 → s.returnFromInt.iff1 = s.iff1) := by
  rw [State.returnFromInt, s.returnPop_after halone]
  by_cases h : s.iff1 = s.iff2 <;> simp [h, State.draw]

/-- Settles O45: each pops PC (`State.returnPop_after`), RET cc where its condition holds; RETN and RETI write IFF1
too. -/
theorem returnPopsPc : Obligations.ReturnPopsPc := by
  intro s halone
  have hpop := s.returnPop_after halone
  obtain ⟨hreti, hkeeps⟩ := s.returnFromInt_after halone
  refine ⟨⟨_, congrArg Host.Outcome.next hpop, rfl, rfl, rfl⟩, fun cc => ⟨_, rfl, ?cc⟩, ⟨_, rfl, ?retn⟩,
    ⟨_, congrArg Host.Outcome.next hreti, rfl, rfl, hkeeps, rfl⟩⟩
  case cc =>
    split
    · rw [hpop]; exact ⟨rfl, rfl, rfl⟩
    · rfl
  case retn => rw [State.returnFromNmi, hpop]; exact ⟨rfl, rfl, rfl, rfl⟩

end Sys2Proof.Machine
end

section
/-! PROOF. The family of spec/49_io.md: the input and output instructions (R430, R431, R436, R437) and the block input
and output instructions with their repetition (R432 to R435, R438 to R441; spec/60_exceptions.md R460). -/

namespace Sys2Proof.Machine

/-! Single input and output. -/

/-- An input cycle by itself changes no register, whatever another master does meanwhile. -/
theorem State.ioRead_reg8 (s : State) (x : Word) (q : R8) : (s.ioRead x).2.reg8 q = s.reg8 q := by
  cases q <;> simp [State.reg8]

/-- Settles O46: one input cycle (`State.ioRead_after`) into A, or into a register with the flags of a loaded byte
(`loadedFlags_parity8_loadedRule`); or one output cycle (`State.ioWrite_alone`). -/
theorem inputAndOutput : Obligations.InputAndOutput := by
  intro s n r halone
  have hread := fun x => s.ioRead_after x halone
  have hwrite := fun x v => s.ioWrite_alone x v halone
  refine ⟨⟨_, rfl, rfl, ?inATrace, ?inAFrame⟩,
    ⟨_, rfl, fun q => ?inROnly, loadedFlags_parity8_loadedRule _ _, ?inRTrace, ?inRFrame⟩,
    ⟨_, congrArg Host.Outcome.next (hwrite _ _), rfl⟩, ⟨_, congrArg Host.Outcome.next (hwrite _ _), rfl⟩⟩
  case inATrace | inAFrame => rw [hread]
  case inROnly => rw [State.setFlags_reg8, State.setReg8_reg8, State.ioRead_reg8]; rfl
  case inRTrace => rw [State.setFlags_trace, State.setReg8_trace, hread]
  case inRFrame => rw [State.setReg8_frame, hread]; rfl

/-! Block input and output. -/

theorem State.blockInput_hl (s : State) (step : Word) : (s.blockInput step).hl = s.hl + step :=
  joinBytes_hiByte_loByte _

theorem State.blockInput_pc (s : State) (step : Word) : (s.blockInput step).pc = s.pc := by
  simp [State.blockInput]

theorem State.blockOutput_hl (s : State) (step : Word) : (s.blockOutput step).hl = s.hl + step :=
  joinBytes_hiByte_loByte _

theorem State.blockOutput_pc (s : State) (step : Word) : (s.blockOutput step).pc = s.pc := by
  simp [State.blockOutput]

/-- One byte from the port to memory, and the repetition until B is 0 where the instruction repeats. -/
theorem inputs_of_exec {i : Instr} {s : State} {step : Word} {repeats : Bool} (halone : Alone s)
    (hexec : exec i s = .next ((s.blockInput step).repeatUnless (!repeats || (s.blockInput step).b == 0))) :
    Inputs i s step repeats := by
  have hafter := s.blockInput_after step halone
  rw [State.repeatUnless_eq _ beq_eq_false_iff_ne, State.blockInput_pc] at hexec
  refine ⟨_, hexec, (storesAt_storeByte s s.hl _).congr ?mem, s.blockInput_hl step, rfl, beq_iff_eq, ?trace, rfl,
    ?frame⟩
  case mem | trace | frame => rw [hafter]

/-- One byte from memory to the port, and the repetition until B is 0 where the instruction repeats. -/
theorem outputs_of_exec {i : Instr} {s : State} {step : Word} {repeats : Bool} (halone : Alone s)
    (hexec : exec i s = .next ((s.blockOutput step).repeatUnless (!repeats || (s.blockOutput step).b == 0))) :
    Outputs i s step repeats := by
  have hafter := s.blockOutput_after step halone
  have hb : (s.blockOutput step).b = s.b - 1 := by rw [hafter]
  rw [State.repeatUnless_eq _ beq_eq_false_iff_ne, State.blockOutput_pc] at hexec
  refine ⟨_, hexec, s.blockOutput_hl step, hb, ?z, ?trace, rfl, ?frame⟩
  case z => simp only [hb]; exact beq_iff_eq
  case trace | frame => rw [hafter]

/-- Settles O47: each moves one byte, HL going up or down, and goes on as `inputs_of_exec` and `outputs_of_exec` say. -/
theorem blockInputAndOutput : Obligations.BlockInputAndOutput := fun _ halone =>
  ⟨inputs_of_exec halone rfl, inputs_of_exec halone rfl, inputs_of_exec halone rfl, inputs_of_exec halone rfl,
    outputs_of_exec halone rfl, outputs_of_exec halone rfl, outputs_of_exec halone rfl, outputs_of_exec halone rfl⟩

end Sys2Proof.Machine
end

section
/-! PROOF. The family of spec/60_exceptions.md: the acceptance of NMI (R453) and of INT in its three modes (R454, R456
to R458), NMI and RETN, the halt state in its four modes (R465 to R474), the bus grant (R459, R485), and that every
instruction completes (R450). -/

namespace Sys2Proof.Machine

/-- Settles O57: `exec_completes`, by the constructors of the instructions. -/
theorem everyInstructionCompletes : Obligations.EveryInstructionCompletes := exec_completes

/-! What both acceptances share: PC pushed. -/

/-- StoresAt speaks of the state before the stores by its memory and its map alone. -/
theorem StoresAt.congr_start {s s' t : State} {ws : List (Word × Byte)} (h : StoresAt s t ws) (hmem : s'.mem = s.mem)
    (hmap : s'.memMap = s.memMap) : StoresAt s' t ws := by
  unfold StoresAt at *
  simpa only [hmem, State.kindAt_congr hmap] using h

/-- PC is stored below SP, its high byte first (spec/20_memory.md R75). -/
def StacksPc (s t : State) : Prop := StoresAt s t [(s.sp - 1, hiByte s.pc), (s.sp - 2, loByte s.pc)]

theorem StacksPc.congr_start {s s' t : State} (h : StacksPc s t) (hsp : s'.sp = s.sp) (hpc : s'.pc = s.pc)
    (hmem : s'.mem = s.mem) (hmap : s'.memMap = s.memMap) : StacksPc s' t := by
  unfold StacksPc at *
  rw [hsp, hpc]
  exact StoresAt.congr_start h hmem hmap

/-! The non-maskable interrupt. -/

/-- After the M1-type cycle of the NMI, whose data is ignored, and before the push (spec/60_exceptions.md R453). -/
def State.nmiAcknowledged (s : State) : State :=
  State.refreshCycle
    (State.emit { s.unhalt with nmiPending := false, iff1 := false } (.nmiAck s.pc (s.ignoredAt s.pc)))

/-- The acceptance of NMI is that cycle and then a call of 0066H. -/
theorem State.acceptNMI_eq (s : State) : s.acceptNMI = s.nmiAcknowledged.callTo 0x0066 := rfl

theorem State.nmiAcknowledged_after (s : State) (halone : Alone s) :
    s.nmiAcknowledged = { s with
      nmiPending := false, halted := false, clockState := .running, iff1 := false, r := inc7 s.r,
      trace := s.nmiAcknowledged.trace } := by
  unfold State.nmiAcknowledged
  rw [State.refreshCycle_after _ (by exact halone)]
  rfl

/-- From s to t an NMI is taken: PC pushed, 0066H next, the latch, the halt state and IFF1 cleared, R advanced once. -/
def EntersNmi (s t : State) : Prop :=
  StacksPc s t ∧
    t = { s with nmiPending := false, halted := false, clockState := .running, iff1 := false, r := inc7 s.r,
                 sp := s.sp - 2, pc := 0x0066, mem := t.mem, trace := t.trace }

theorem State.acceptNMI_entersNmi (s : State) (halone : Alone s) : EntersNmi s s.acceptNMI := by
  have hack := s.nmiAcknowledged_after halone
  obtain ⟨hstores, hframe⟩ := s.nmiAcknowledged.callTo_pushesTo 0x0066 (by rw [hack]; exact halone)
  rw [← s.acceptNMI_eq] at hstores hframe
  refine ⟨StacksPc.congr_start hstores ?_ ?_ ?_ ?_, ?frame⟩
  case frame => rw [hframe, hack]
  all_goals rw [hack]

/-- Settles O48: the free P/V flag after LD A,I or LD A,R (`State.freePV_after`), and then the acceptance
(`State.acceptNMI_entersNmi`). -/
theorem nmiAcceptance : Obligations.NmiAcceptance := by
  intro s lastLdAIR halone hnmi
  obtain ⟨hpv, hf⟩ := s.freePV_after lastLdAIR
  obtain ⟨hstacks, hframe⟩ := (s.freePV lastLdAIR).acceptNMI_entersNmi (by rw [hpv]; exact halone)
  have hkept : (s.freePV lastLdAIR).acceptNMI.f = (s.freePV lastLdAIR).f := by rw [hframe]
  refine ⟨_, s.sample_nmi lastLdAIR hnmi, hstacks.congr_start ?_ ?_ ?_ ?_, by rw [hkept]; exact hf, rfl, ?frame⟩
  case frame => rw [hframe, hpv]
  all_goals rw [hpv]

/-- The pop that ends the handler gives back PC and SP, over a stack in RAM (`PushesTo.pop16`). -/
theorem State.acceptNMI_pop16 (s : State) (halone : Alone s) (hramHi : s.kindAt (s.sp - 1) = .ram)
    (hramLo : s.kindAt (s.sp - 2) = .ram) : s.acceptNMI.pop16.1 = s.pc ∧ s.acceptNMI.pop16.2.sp = s.sp := by
  have hack := s.nmiAcknowledged_after halone
  have hpop := (s.nmiAcknowledged.callTo_pushesTo 0x0066 (by rw [hack]; exact halone)).pop16
    (by rw [hack]; exact halone) (by rw [hack]; exact hramHi) (by rw [hack]; exact hramLo)
  rw [State.acceptNMI_eq, hpop]
  constructor <;> rw [hack]

theorem State.returnFromNmi_iff2 (s : State) : s.returnFromNmi.iff2 = s.iff2 := by
  simp [State.returnFromNmi, State.returnPop]

theorem State.returnFromNmi_f (s : State) : s.returnFromNmi.f = s.f := by
  simp [State.returnFromNmi, State.returnPop]

/-- RETN by itself changes no general register, whatever another master does meanwhile. -/
theorem State.returnFromNmi_reg8 (s : State) (q : R8) : s.returnFromNmi.reg8 q = s.reg8 q := by
  cases q <;> simp [State.returnFromNmi, State.returnPop, State.reg8]

/-- Settles O51: RETN pops the PC that the acceptance pushed (`State.acceptNMI_pop16`), and neither touches the
registers. -/
theorem nmiThenReturn : Obligations.NmiThenReturn := by
  intro s halone hnmi hramHi hramLo
  obtain ⟨-, hframe⟩ := s.acceptNMI_entersNmi halone
  obtain ⟨hpc, hsp⟩ := s.acceptNMI_pop16 halone hramHi hramLo
  have hsample : s.sample false = .next s.acceptNMI := s.sample_nmi false hnmi
  have hiff1 : s.acceptNMI.iff1 = false := by rw [hframe]
  have hiff2 : s.acceptNMI.iff2 = s.iff2 := by rw [hframe]
  have hf : s.acceptNMI.f = s.f := by rw [hframe]
  have hreg : ∀ q, s.acceptNMI.reg8 q = s.reg8 q := by rw [hframe]; exact fun q => by cases q <;> rfl
  refine ⟨_, _, hsample, rfl, hiff1, rfl, hpc, hsp, hiff2, ?iff2, ?f, fun q => ?reg⟩
  case iff2 => rw [State.returnFromNmi_iff2, hiff2]
  case f => rw [State.returnFromNmi_f, hf]
  case reg => rw [State.returnFromNmi_reg8, hreg]

/-! The maskable interrupt. -/

/-- The eight restart opcodes (spec/60_exceptions.md R456). -/
theorem isRestartOpcode_iff_mem (v : Byte) :
    isRestartOpcode v = true ↔ v ∈ [0xC7, 0xCF, 0xD7, 0xDF, 0xE7, 0xEF, 0xF7, 0xFF] := by
  revert v; decide

/-- The restart address of an opcode is 8 times its bits 5 to 3 (spec/60_exceptions.md R456). -/
theorem restartAddress_toNat (v : Byte) : (zext16 (v &&& 0x38)).toNat = 8 * (v.toNat / 8 % 8) := by
  revert v; decide

/-- After the acknowledge cycle of INT, and before the push (spec/60_exceptions.md R454, R477). -/
def State.intAcknowledged (s : State) : State := (State.ackCycle { s.unhalt with iff1 := false, iff2 := false }).2

theorem State.intAcknowledged_after (s : State) (halone : Alone s) :
    s.intAcknowledged = { s with
      halted := false, clockState := .running, iff1 := false, iff2 := false, r := inc7 s.r,
      dataIn := s.intAcknowledged.dataIn, draws := s.intAcknowledged.draws, trace := s.intAcknowledged.trace } := by
  unfold State.intAcknowledged
  rw [State.ackCycle_after _ (by exact halone)]
  rfl

/-- The mode and I are as before, whatever another master does meanwhile. -/
theorem State.intAcknowledged_im (s : State) : s.intAcknowledged.im = s.im := by
  simp [State.intAcknowledged, State.ackCycle]

theorem State.intAcknowledged_i (s : State) : s.intAcknowledged.i = s.i := by
  simp [State.intAcknowledged, State.ackCycle]

/-- The acknowledge cycle reads the byte V that the outside supplies. -/
theorem State.intAcknowledged_byte (s : State) :
    (State.ackCycle { s.unhalt with iff1 := false, iff2 := false }).1 = s.external.1 :=
  State.external_congr rfl rfl

theorem State.acceptINT_mode0 {s : State} (him : s.im = .mode0) :
    s.acceptINT =
      if isRestartOpcode s.external.1 then .next (s.intAcknowledged.callTo (zext16 (s.external.1 &&& 0x38)))
      else .refused (.mode0NotRestart s.external.1) s.intAcknowledged := by
  rw [← s.intAcknowledged_im] at him
  unfold State.acceptINT
  dsimp only
  rw [State.intAcknowledged_byte]
  split
  case h_1 => rfl
  case h_2 h | h_3 h => exact absurd (him.symm.trans h) nofun

theorem State.acceptINT_mode1 {s : State} (him : s.im = .mode1) :
    s.acceptINT = .next (s.intAcknowledged.callTo 0x0038) := by
  rw [← s.intAcknowledged_im] at him
  unfold State.acceptINT
  dsimp only
  split
  case h_2 => rfl
  case h_1 h | h_3 h => exact absurd (him.symm.trans h) nofun

/-- The push of an acceptance, and then PC read from the table entry at I : V (spec/60_exceptions.md R458). -/
def State.intVectored (s : State) : State :=
  let t := s.intAcknowledged.push16 s.intAcknowledged.pc
  let entry := t.readWord (joinBytes s.i s.external.1)
  { entry.2 with pc := entry.1 }

theorem State.acceptINT_mode2 {s : State} (him : s.im = .mode2) : s.acceptINT = .next s.intVectored := by
  rw [← s.intAcknowledged_im] at him
  unfold State.acceptINT
  dsimp only
  rw [State.intAcknowledged_byte, State.push16_i]
  split
  case h_3 => rw [← State.intAcknowledged, State.intAcknowledged_i]; rfl
  case h_1 h | h_2 h => exact absurd (him.symm.trans h) nofun

/-- From s to t an INT is taken: PC pushed, the halt state and both flip-flops cleared, R advanced once. -/
def EntersInt (s t : State) : Prop :=
  StacksPc s t ∧
    t = { s with halted := false, clockState := .running, iff1 := false, iff2 := false, r := inc7 s.r,
                 sp := s.sp - 2, pc := t.pc, mem := t.mem, dataIn := t.dataIn, draws := t.draws, trace := t.trace }

/-- After the push only PC is written, and reads are done. -/
theorem EntersInt.of_reads {s t u : State} (h : EntersInt s t)
    (hu : u = { t with pc := u.pc, dataIn := u.dataIn, draws := u.draws, trace := u.trace }) : EntersInt s u := by
  obtain ⟨hstacks, hframe⟩ := h
  refine ⟨StoresAt.congr hstacks ?_, ?_⟩
  · rw [hu]
  · rw [hu, hframe]

theorem State.push16_entersInt (s : State) (halone : Alone s) :
    EntersInt s (s.intAcknowledged.push16 s.intAcknowledged.pc) := by
  have hack := s.intAcknowledged_after halone
  obtain ⟨hstores, hframe⟩ := s.intAcknowledged.push16_pushesTo s.intAcknowledged.pc (by rw [hack]; exact halone)
  refine ⟨StacksPc.congr_start hstores ?_ ?_ ?_ ?_, ?frame⟩
  case frame => rw [hframe, hack]
  all_goals rw [hack]

/-- A call from the acknowledge cycle, as in modes 0 and 1. -/
theorem State.callTo_entersInt (s : State) (target : Word) (halone : Alone s) :
    EntersInt s (s.intAcknowledged.callTo target) := (s.push16_entersInt halone).of_reads rfl

/-- Mode 2, and what PC becomes where memory holds the table entry after the push. -/
theorem State.intVectored_entersInt (s : State) (halone : Alone s) :
    EntersInt s s.intVectored ∧ ∀ lo hi, Holds s.intVectored (joinBytes s.i s.external.1) lo →
      Holds s.intVectored (joinBytes s.i s.external.1 + 1) hi → s.intVectored.pc = joinBytes hi lo := by
  have hpush := s.push16_entersInt halone
  have halone' : Alone (s.intAcknowledged.push16 s.intAcknowledged.pc) := by rw [hpush.2]; exact halone
  have hread := State.readWord_after _ (joinBytes s.i s.external.1) halone'
  have hframe : s.intVectored = { s.intAcknowledged.push16 s.intAcknowledged.pc with
      pc := s.intVectored.pc, dataIn := s.intVectored.dataIn, draws := s.intVectored.draws,
      trace := s.intVectored.trace } := by
    unfold State.intVectored
    dsimp only
    rw [hread]
  refine ⟨hpush.of_reads hframe, fun lo hi hlo hhi => ?_⟩
  rw [hframe] at hlo hhi
  exact congrArg Prod.fst (State.readWord_known halone' hlo hhi)

/-- Where an accepted INT goes, by the interrupt mode and the byte V (spec/60_exceptions.md R456 to R458). -/
def IntTarget (s t : State) (v : Byte) : Prop :=
  (s.im = .mode0 → t.pc.toNat = 8 * (v.toNat / 8 % 8)) ∧ (s.im = .mode1 → t.pc = 0x0038) ∧
    (s.im = .mode2 → ∀ lo hi, Holds t (joinBytes s.i v) lo → Holds t (joinBytes s.i v + 1) hi →
      t.pc = joinBytes hi lo)

theorem IntTarget.congr_start {s s' t : State} {v : Byte} (h : IntTarget s t v) (him : s'.im = s.im)
    (hi : s'.i = s.i) : IntTarget s' t v := by
  unfold IntTarget at *
  rwa [him, hi]

/-- The acceptance of INT, unless mode 0 meets a byte that is no restart opcode. -/
theorem State.acceptINT_entersInt (s : State) (halone : Alone s)
    (hv : s.im = .mode0 → isRestartOpcode s.external.1 = true) :
    ∃ t, s.acceptINT = .next t ∧ EntersInt s t ∧ IntTarget s t s.external.1 := by
  cases him : s.im with
  | mode0 =>
    refine ⟨_, (s.acceptINT_mode0 him).trans (if_pos (hv him)), s.callTo_entersInt _ halone, fun _ => ?_, ?_, ?_⟩
    · exact restartAddress_toNat _
    all_goals simp [him]
  | mode1 =>
    exact ⟨_, s.acceptINT_mode1 him, s.callTo_entersInt _ halone, by simp [him], fun _ => rfl, by simp [him]⟩
  | mode2 =>
    obtain ⟨henters, htarget⟩ := s.intVectored_entersInt halone
    exact ⟨_, s.acceptINT_mode2 him, henters, by simp [him], by simp [him], fun _ => htarget⟩

/-- Mode 0 refuses a byte that is no restart opcode (log entry 15). -/
theorem State.acceptINT_refuses {s : State} (him : s.im = .mode0) (hv : isRestartOpcode s.external.1 = false) :
    s.acceptINT.result = .refused (.mode0NotRestart s.external.1) := by
  rw [State.acceptINT_mode0 him, hv]
  rfl

/-- An INT taken at a sampling point: the free P/V flag after LD A,I or LD A,R (`State.freePV_after`), and then the
acceptance (`State.acceptINT_entersInt`). -/
theorem State.sample_entersInt (s : State) (lastLdAIR : Bool) (halone : Alone s) (hnmi : s.nmiPending = false)
    (hint : s.pins.intLow = true) (hiff1 : s.iff1 = true) (hshadow : s.eiShadow = false)
    (hv : s.im = .mode0 → isRestartOpcode (s.freePV lastLdAIR).external.1 = true) :
    ∃ t, s.sample lastLdAIR = .next t ∧ StacksPc s t ∧ IntTarget s t (s.freePV lastLdAIR).external.1 ∧
      (if lastLdAIR then t.f = { s.f with pv := t.f.pv } else t.f = s.f) ∧
      t = { s with halted := false, clockState := .running, iff1 := false, iff2 := false, r := inc7 s.r,
                   sp := s.sp - 2, pc := t.pc, f := t.f, mem := t.mem, dataIn := t.dataIn, draws := t.draws,
                   trace := t.trace } := by
  obtain ⟨hpv, hf⟩ := s.freePV_after lastLdAIR
  have him : (s.freePV lastLdAIR).im = s.im := by rw [hpv]
  have hi : (s.freePV lastLdAIR).i = s.i := by rw [hpv]
  obtain ⟨t, haccept, ⟨hstacks, hframe⟩, htarget⟩ := (s.freePV lastLdAIR).acceptINT_entersInt
    (by rw [hpv]; exact halone) (by rw [him]; exact hv)
  have hkept : t.f = (s.freePV lastLdAIR).f := by rw [hframe]
  refine ⟨t, (s.sample_int lastLdAIR hnmi hint hiff1 hshadow).trans haccept, hstacks.congr_start ?_ ?_ ?_ ?_, ?target,
    by rw [hkept]; exact hf, ?frame⟩
  case target => exact htarget.congr_start him.symm hi.symm
  case frame => rw [hframe, hpv]
  all_goals rw [hpv]

/-- Settles O49: `State.sample_entersInt` in modes 1 and 2. -/
theorem intAcceptance : Obligations.IntAcceptance := by
  intro s lastLdAIR halone hnmi hint hiff1 hshadow him
  obtain ⟨t, hsample, hstacks, ⟨-, hmode1, hmode2⟩, hf, hframe⟩ :=
    s.sample_entersInt lastLdAIR halone hnmi hint hiff1 hshadow fun h => absurd h him
  exact ⟨t, hsample, hstacks, fun h => ⟨hmode1 h, rfl⟩, fun h => ⟨rfl, hmode2 h⟩, hf, hframe⟩

/-- Settles O50: `State.sample_entersInt` in mode 0, and `State.acceptINT_refuses` for the other bytes. -/
theorem intAcceptanceModeZero : Obligations.IntAcceptanceModeZero := by
  intro s lastLdAIR v halone hnmi hint hiff1 hshadow him hbyte
  constructor
  · intro hv
    obtain ⟨t, hsample, hstacks, ⟨hmode0, -, -⟩, hf, hframe⟩ :=
      s.sample_entersInt lastLdAIR halone hnmi hint hiff1 hshadow fun _ => by
        rw [hbyte]; exact (isRestartOpcode_iff_mem v).mpr hv
    rw [hbyte] at hmode0
    exact ⟨t, hsample, hstacks, hmode0 him, rfl, hf, hframe⟩
  · intro hv
    have hrefuses : isRestartOpcode v = false := Bool.eq_false_iff.mpr (mt (isRestartOpcode_iff_mem v).mp hv)
    have him' : (s.freePV lastLdAIR).im = .mode0 := by rw [(s.freePV_after lastLdAIR).1]; exact him
    rw [s.sample_int lastLdAIR hnmi hint hiff1 hshadow, State.acceptINT_refuses him' (by rwa [hbyte]), hbyte]

/-! The halt state in RUN mode. -/

/-- The pins that select the mode of the halt state have not changed. -/
theorem modeChanged_eq_false {s t : State} (hms1 : t.pins.ms1 = s.pins.ms1) (hms2 : t.pins.ms2 = s.pins.ms2) :
    modeChanged s t = false := by
  simp [modeChanged, hms1, hms2]

/-- A step in which the MPU has the bus, or its clock is stopped: the inputs are taken, BUSREQ may be answered where the
clock is stopped, and the MPU goes on (spec/60_exceptions.md R486). -/
theorem step_of_advance (s : State) (hreset : s.takeInput.pins.reset = .inactive)
    (hmode : modeChanged s s.takeInput = false)
    (hbus : s.takeInput.pins.busreqLow = false ∨ s.clockState ≠ .running) :
    step s =
      (State.advance (State.sleepGrant { s.takeInput with busGranted := false } s.coming) s.pins.intLow).result := by
  have hgrant : (s.takeInput.pins.busreqLow && s.takeInput.clockState == .running) = false := by
    rw [Bool.and_eq_false_iff, beq_eq_false_iff_ne, s.takeInput_keepsControl.clockState]
    exact hbus
  rw [step, stepFrom, hreset]
  simp [runFrom, hmode, hgrant]

/-- Settles O52: the MPU goes on with a NOP of the halt state (`State.haltNop_after`); with nothing to accept its
sampling point does nothing (`State.sample_none`). -/
theorem haltRunStep : Obligations.HaltRunStep := by
  intro s t halone hreset hbus hhalted hclock hms1 hms2 ht
  have hsleep : State.sleepGrant { s.takeInput with busGranted := false } s.coming =
      { s.takeInput with busGranted := false } := (State.sleepGrant_after _ s.coming).2.1 hbus
  have hadvance : State.advance { s.takeInput with busGranted := false } s.pins.intLow =
      State.haltNop { s.takeInput with busGranted := false } := by
    simp [State.advance, s.takeInput_keepsControl.halted, s.takeInput_keepsControl.clockState, hhalted, hclock]
  have hnop : State.haltNop { s.takeInput with busGranted := false } = t.sample false := by
    rw [State.haltNop_after _ (by rw [State.takeInput_frame]; exact halone), ht, State.takeInput_frame]
    rfl
  have hstep : step s = (t.sample false).result := by
    rw [step_of_advance s hreset (modeChanged_eq_false hms1 hms2) (.inl hbus), hsleep, hadvance, hnop]
  refine ⟨hstep, fun hnmi hint => ?_⟩
  rw [hstep, State.sample_none t false hnmi (hint.imp id .inl)]
  rfl

/-! The halt state with the clock stopped. -/

/-- Asleep: the halt state in IDLE1, IDLE2 or STOP mode. -/
def Asleep (s : State) : Prop := s.halted = true ∧ s.clockState ∈ [ClockState.idle1, .idle2, .stopped]

theorem Asleep.clockState_ne_running {s : State} (h : Asleep s) : s.clockState ≠ .running := fun hrun => by
  simp [Asleep, hrun] at h

theorem State.advance_of_asleep {s : State} (h : Asleep s) (intWasLow : Bool) :
    s.advance intWasLow = s.haltAsleep intWasLow := by
  unfold State.advance
  rw [if_pos h.1]
  split
  case h_1 hrun => exact absurd hrun h.clockState_ne_running
  all_goals rfl

/-- A step of the halt state with the clock stopped, from the state with the inputs taken and BUSREQ answered or not. -/
theorem step_of_asleep {s u : State} (hreset : s.takeInput.pins.reset = .inactive) (hsleep : Asleep s)
    (hms1 : s.takeInput.pins.ms1 = s.pins.ms1) (hms2 : s.takeInput.pins.ms2 = s.pins.ms2)
    (hu : u = State.sleepGrant { s.takeInput with busGranted := false } s.coming) :
    step s = (u.haltAsleep s.pins.intLow).result := by
  have hasleep : Asleep u := by
    rw [hu, (State.sleepGrant_after _ s.coming).1, Asleep, State.takeInput_frame]
    exact hsleep
  rw [step_of_advance s hreset (modeChanged_eq_false hms1 hms2) (.inr hsleep.clockState_ne_running), ← hu,
    State.advance_of_asleep hasleep]

/-- Nothing wakes it. -/
theorem State.haltAsleep_undisturbed {s : State} (hint : s.pins.intLow = false) (hpulse : s.pins.intPulse = false)
    (hnmi : s.nmiPending = false) (intWasLow : Bool) : s.haltAsleep intWasLow = .next s := by
  simp [State.haltAsleep, hint, hpulse, hnmi]

/-- INT has not stayed at "0", or IFF1 allows it. -/
theorem State.intStayed_eq_false {s : State} {intWasLow : Bool}
    (h : intWasLow = false ∨ s.iff1 = true ∨ (s.pins.intLow = false ∧ s.pins.intPulse = false)) :
    s.intStayed intWasLow = false := by
  rcases h with rfl | h | ⟨hlow, hpulse⟩
  · rfl
  · simp [State.intStayed, h]
  · simp [State.intStayed, hlow, hpulse]

/-- Bit 7 of R is kept (spec/10_state.md R27). -/
theorem inc7_getLsbD_seven (r : Byte) : (inc7 r).getLsbD 7 = r.getLsbD 7 := by
  simp [inc7]

/-- Woken, and after one NOP (spec/60_exceptions.md R472, R474). -/
def State.woken (s : State) (intWasLow : Bool) : State :=
  let t := s.freeCount (s.intStayed intWasLow)
  { t with
    clockState := .running, r := inc7 t.r,
    trace := .refresh (joinBytes t.i t.r) :: .haltFetch t.pc (t.ignoredAt t.pc) :: t.trace }

/-- INT at "0" or a latched NMI wakes it, and the sampling point of the NOP decides. -/
theorem State.haltAsleep_woken {s : State} (halone : Alone s) (hwake : s.pins.intLow = true ∨ s.nmiPending = true)
    (intWasLow : Bool) :
    s.haltAsleep intWasLow = sleepAgain s.clockState ((s.woken intWasLow).sample false) := by
  have hdisturbed : (s.pins.intLow || s.pins.intPulse || s.nmiPending) = true := by
    rcases hwake with h | h <;> simp [h]
  have halone' : Alone (s.freeCount (s.intStayed intWasLow)) := by
    rw [(s.freeCount_after _).1]; exact halone
  unfold State.haltAsleep
  rw [if_pos hdisturbed, State.haltNop_after _ (by exact halone')]
  rfl

/-- What the wake-up and its NOP change: the clock runs, and R moves, by one where INT has not stayed at "0". -/
theorem State.woken_after (s : State) (intWasLow : Bool) :
    s.woken intWasLow = { s with
      clockState := .running, r := (s.woken intWasLow).r, draws := (s.woken intWasLow).draws,
      trace := (s.woken intWasLow).trace } ∧
    (s.woken intWasLow).r.getLsbD 7 = s.r.getLsbD 7 ∧
    (s.intStayed intWasLow = false →
      (s.woken intWasLow).r = inc7 s.r ∧ (s.woken intWasLow).draws = s.draws) := by
  obtain ⟨hframe, hbit7, hsame⟩ := s.freeCount_after (s.intStayed intWasLow)
  refine ⟨?frame, ?bit7, fun h => ?same⟩
  case frame => unfold State.woken; dsimp only; rw [hframe]
  case bit7 => rw [← hbit7]; exact inc7_getLsbD_seven _
  case same => rw [State.woken, hsame h]; exact ⟨rfl, rfl⟩

/-- An INT that IFF1 forbids: after the NOP the clock stops again (spec/60_exceptions.md R473). -/
theorem State.haltAsleep_forbidden {s : State} (halone : Alone s) (hhalted : s.halted = true)
    (hint : s.pins.intLow = true) (hnmi : s.nmiPending = false) (hiff1 : s.iff1 = false) (intWasLow : Bool) :
    s.haltAsleep intWasLow = .next { s.woken intWasLow with clockState := s.clockState } := by
  have hwoken := (s.woken_after intWasLow).1
  have hnone : (s.woken intWasLow).sample false = .next (s.woken intWasLow) :=
    State.sample_none _ _ (by rw [hwoken]; exact hnmi) (.inr (.inl (by rw [hwoken]; exact hiff1)))
  have hstill : (s.woken intWasLow).halted = true := by rw [hwoken]; exact hhalted
  rw [State.haltAsleep_woken halone (.inl hint), hnone, sleepAgain, if_pos hstill]

/-- The clock stays on where the halt state has been left. -/
theorem sleepAgain_of_left {t : State} (h : t.halted = false) (saved : ClockState) :
    sleepAgain saved (.next t) = .next t := by
  simp [sleepAgain, h]

theorem sleepAgain_result_refused {e : Ending} {why : Refusal} (h : e.result = .refused why) (saved : ClockState) :
    (sleepAgain saved e).result = .refused why := by
  cases e with
  | refused => exact h
  | next | fault => cases h

/-- A latched NMI ends the halt state after one NOP (spec/60_exceptions.md R453, R472). -/
theorem State.haltAsleep_nmi {s : State} (halone : Alone s) (hnmi : s.nmiPending = true) (intWasLow : Bool) :
    ∃ t, s.haltAsleep intWasLow = .next t ∧ StacksPc s t ∧ t.r.getLsbD 7 = s.r.getLsbD 7 ∧
      (s.intStayed intWasLow = false → t.r = inc7 (inc7 s.r)) ∧
      t = { s with nmiPending := false, halted := false, clockState := .running, iff1 := false, r := t.r,
                   sp := s.sp - 2, pc := 0x0066, mem := t.mem, draws := t.draws, trace := t.trace } := by
  obtain ⟨hwoken, hbit7, hcount⟩ := s.woken_after intWasLow
  have hsample : (s.woken intWasLow).sample false = .next (s.woken intWasLow).acceptNMI :=
    State.sample_nmi _ false (by rw [hwoken]; exact hnmi)
  obtain ⟨hstacks, hframe⟩ := (s.woken intWasLow).acceptNMI_entersNmi (by rw [hwoken]; exact halone)
  have hleft : (s.woken intWasLow).acceptNMI.halted = false := by rw [hframe]
  have hr : (s.woken intWasLow).acceptNMI.r = inc7 (s.woken intWasLow).r := by rw [hframe]
  refine ⟨_, ?halt, hstacks.congr_start ?_ ?_ ?_ ?_, ?bit7, fun h => ?count, ?frame⟩
  case halt => rw [State.haltAsleep_woken halone (.inr hnmi), hsample, sleepAgain_of_left hleft]
  case bit7 => rw [hr, inc7_getLsbD_seven, hbit7]
  case count => rw [hr, (hcount h).1]
  case frame => rw [hframe, hwoken]
  all_goals rw [hwoken]

/-- An INT that IFF1 allows ends the halt state after one NOP (spec/60_exceptions.md R454, R472), unless mode 0 meets a
byte that is no restart opcode. -/
theorem State.haltAsleep_int {s : State} (halone : Alone s) (hnmi : s.nmiPending = false)
    (hint : s.pins.intLow = true) (hiff1 : s.iff1 = true) (hshadow : s.eiShadow = false) (intWasLow : Bool) :
    if s.im = .mode0 ∧ isRestartOpcode s.external.1 = false then
      (s.haltAsleep intWasLow).result = .refused (.mode0NotRestart s.external.1)
    else
      ∃ t, s.haltAsleep intWasLow = .next t ∧ StacksPc s t ∧ IntTarget s t s.external.1 ∧
        t = { s with halted := false, clockState := .running, iff1 := false, iff2 := false, r := inc7 (inc7 s.r),
                     sp := s.sp - 2, pc := t.pc, mem := t.mem, dataIn := t.dataIn, draws := t.draws,
                     trace := t.trace } := by
  obtain ⟨hwoken, -, hcount⟩ := s.woken_after intWasLow
  obtain ⟨hr, hdraws⟩ := hcount (State.intStayed_eq_false (.inr (.inl hiff1)))
  rw [hr, hdraws] at hwoken
  have hsample : (s.woken intWasLow).sample false = (s.woken intWasLow).acceptINT :=
    State.sample_int _ false (by rw [hwoken]; exact hnmi) (by rw [hwoken]; exact hint) (by rw [hwoken]; exact hiff1)
      (by rw [hwoken]; exact hshadow)
  have hbyte : (s.woken intWasLow).external.1 = s.external.1 :=
    State.external_congr (by rw [hwoken]) (by rw [hwoken])
  have him : (s.woken intWasLow).im = s.im := by rw [hwoken]
  have hi : (s.woken intWasLow).i = s.i := by rw [hwoken]
  rw [State.haltAsleep_woken halone (.inl hint), hsample]
  split
  case isTrue h =>
    rw [← hbyte]
    exact sleepAgain_result_refused (State.acceptINT_refuses (him.trans h.1) (by rw [hbyte]; exact h.2)) _
  case isFalse h =>
    obtain ⟨t, haccept, ⟨hstacks, hframe⟩, htarget⟩ := (s.woken intWasLow).acceptINT_entersInt
      (by rw [hwoken]; exact halone) fun hm => by
        rw [hbyte]; exact eq_true_of_ne_false fun hv => h ⟨him.symm.trans hm, hv⟩
    have hleft : t.halted = false := by rw [hframe]
    refine ⟨t, ?halt, hstacks.congr_start ?_ ?_ ?_ ?_, ?target, ?frame⟩
    case halt => rw [haccept, sleepAgain_of_left hleft]
    case target => exact hbyte ▸ htarget.congr_start him.symm hi.symm
    case frame => rw [hframe, hwoken]
    all_goals rw [hwoken]

/-! BUSREQ while the clock is stopped. -/

/-- BUSACK shows the free answer to BUSREQ (log entry 21). -/
theorem State.busackPin_of_stopped {s : State} (hgrant : s.busGranted = false) (hbus : s.pins.busreqLow = true)
    (hclock : s.clockState ≠ .running) : s.busackPin = .low ↔ s.sleepBusack = true := by
  simp [State.busackPin, hgrant, hbus, hclock]

/-- With nothing to write the answer does not matter to memory. -/
theorem State.sleepGrant_nil_mem (s : State) : (s.sleepGrant []).mem = s.mem := by
  obtain ⟨-, hhigh, hanswer⟩ := s.sleepGrant_after []
  cases hbus : s.pins.busreqLow with
  | false => rw [hhigh hbus]
  | true =>
    have hmem := hanswer hbus
    split at hmem <;> exact hmem.1

/-! The steps asleep with no input to come, or one. -/

section

variable {s : State} (hinputs : s.inputs = []) (hreset : s.pins.reset = .inactive) (hsleep : Asleep s)
  (hgrant : s.busGranted = false)

include hinputs hreset hsleep hgrant

/-- With no input to come the pins keep their levels, and no other master has anything to write. -/
theorem step_of_asleep_noInput (hpulse : s.pins.intPulse = false) :
    step s = ((s.sleepGrant []).haltAsleep s.pins.intLow).result := by
  have htaken : s.takeInput = { s with pins := { s.pins with intPulse := s.pins.intPulse } } := by
    rw [hpulse]; unfold State.takeInput; rw [hinputs]
  have hcoming : s.coming = [] := by unfold State.coming; rw [hinputs]
  refine step_of_asleep (by rw [htaken]; exact hreset) hsleep (by rw [htaken]) (by rw [htaken]) ?_
  rw [htaken, hcoming, ← hgrant]

/-- With one input to come, no NMI edge in it, its pins are those of the step. -/
theorem step_of_asleep_oneInput {x : StepInput} (hedge : x.nmiEdge = false) (hreset' : x.pins.reset = s.pins.reset)
    (hms1 : x.pins.ms1 = s.pins.ms1) (hms2 : x.pins.ms2 = s.pins.ms2) :
    step { s with inputs := [x] } =
      ((State.sleepGrant { s with pins := x.pins } x.busWrites).haltAsleep s.pins.intLow).result := by
  have htaken : State.takeInput { s with inputs := [x] } = { s with pins := x.pins } := by
    rw [(State.takeInput_cons { s with inputs := [x] } x [] rfl).1, hedge, Bool.or_false, ← hinputs]
  have hcoming : State.coming { s with inputs := [x] } = x.busWrites := rfl
  refine step_of_asleep (by rw [htaken]; exact hreset'.trans hreset) hsleep (by rw [htaken]; exact hms1)
    (by rw [htaken]; exact hms2) ?_
  rw [htaken, hcoming, ← hgrant]

/-- Nothing to wake it: nothing changes (spec/60_exceptions.md R468 to R470). -/
theorem step_asleep_undisturbed (hpulse : s.pins.intPulse = false) (hint : s.pins.intLow = false)
    (hnmi : s.nmiPending = false) (hbus : s.pins.busreqLow = false) : step s = .next s := by
  rw [step_of_asleep_noInput hinputs hreset hsleep hgrant hpulse, (s.sleepGrant_after []).2.1 hbus,
    State.haltAsleep_undisturbed hint hpulse hnmi]
  rfl

/-- BUSREQ: the other master's writes land exactly where it is answered (log entry 21). -/
theorem step_asleep_busreq (hpulse : s.pins.intPulse = false) (hint : s.pins.intLow = false)
    (hnmi : s.nmiPending = false) {x : StepInput} (hx : x.pins = { s.pins with busreqLow := true })
    (hedge : x.nmiEdge = false) :
    ∃ t, step { s with inputs := [x] } = .next t ∧
      (if t.busackPin = .low then
        t.mem = (s.storeAll x.busWrites).mem ∧ t.trace = .granted x.busWrites :: s.trace
      else t.mem = s.mem ∧ t.trace = s.trace) ∧
      t = { s with pins := x.pins, mem := t.mem, sleepBusack := t.sleepBusack, draws := t.draws,
                   trace := t.trace } := by
  obtain ⟨hframe, -, hanswer⟩ := State.sleepGrant_after { s with pins := x.pins } x.busWrites
  have hlow : x.pins.busreqLow = true := by rw [hx]
  have hpin : (State.sleepGrant { s with pins := x.pins } x.busWrites).busackPin = .low ↔
      (State.sleepGrant { s with pins := x.pins } x.busWrites).sleepBusack = true :=
    State.busackPin_of_stopped (by rw [hframe]; exact hgrant) (by rw [hframe]; exact hlow)
      (by rw [hframe]; exact hsleep.clockState_ne_running)
  refine ⟨_, ?step, ?writes, hframe⟩
  case step =>
    rw [step_of_asleep_oneInput hinputs hreset hsleep hgrant hedge (by rw [hx]) (by rw [hx]) (by rw [hx]),
      State.haltAsleep_undisturbed]
    · rfl
    · rw [hframe, hx]; exact hint
    · rw [hframe, hx]; exact hpulse
    · rw [hframe]; exact hnmi
  case writes =>
    have hmem : (State.storeAll { s with pins := x.pins } x.busWrites).mem = (s.storeAll x.busWrites).mem :=
      State.storeAll_mem_congr _ rfl rfl
    rw [← hmem]
    simp only [hpin]
    exact hanswer hlow

/-- An INT that falls while IFF1 is 0: one NOP, and asleep again (spec/60_exceptions.md R473). -/
theorem step_asleep_intFalls (halone : Alone s) (hint : s.pins.intLow = false) (hnmi : s.nmiPending = false)
    (hiff1 : s.iff1 = false) (hbus : s.pins.busreqLow = false) {x : StepInput}
    (hx : x.pins = { s.pins with intLow := true }) (hedge : x.nmiEdge = false) :
    ∃ t, step { s with inputs := [x] } = .next t ∧
      t = { s with r := inc7 s.r, pins := x.pins, trace := t.trace } := by
  have hquiet : State.sleepGrant { s with pins := x.pins } x.busWrites = { s with pins := x.pins } :=
    (State.sleepGrant_after _ _).2.1 (by rw [hx]; exact hbus)
  obtain ⟨hwoken, -, hcount⟩ := State.woken_after { s with pins := x.pins } s.pins.intLow
  obtain ⟨hr, hdraws⟩ := hcount (by rw [hint]; rfl)
  rw [hr, hdraws] at hwoken
  have hsleeps : State.haltAsleep { s with pins := x.pins } s.pins.intLow =
      .next { State.woken { s with pins := x.pins } s.pins.intLow with clockState := s.clockState } :=
    State.haltAsleep_forbidden (s := { s with pins := x.pins }) halone hsleep.1 (by rw [hx]) hnmi hiff1 _
  refine ⟨_, (step_of_asleep_oneInput hinputs hreset hsleep hgrant hedge (by rw [hx]) (by rw [hx]) (by rw [hx])).trans
    (congrArg Ending.result ((congrArg (State.haltAsleep · _) hquiet).trans hsleeps)), ?frame⟩
  case frame => rw [hwoken]

/-- While such an INT stays at "0": R[6:0] is open, and the halt state stays (log entry 13). -/
theorem step_asleep_intStays (halone : Alone s) (hpulse : s.pins.intPulse = false) (hint : s.pins.intLow = true)
    (hnmi : s.nmiPending = false) (hiff1 : s.iff1 = false) :
    ∃ t, step s = .next t ∧ t.r.getLsbD 7 = s.r.getLsbD 7 ∧
      t = { s with r := t.r, sleepBusack := t.sleepBusack, draws := t.draws, trace := t.trace } := by
  have hframe := (s.sleepGrant_after []).1
  rw [s.sleepGrant_nil_mem] at hframe
  obtain ⟨hwoken, hbit7, -⟩ := (s.sleepGrant []).woken_after s.pins.intLow
  have hsleeps := State.haltAsleep_forbidden (s := s.sleepGrant []) (by rw [hframe]; exact halone)
    (by rw [hframe]; exact hsleep.1) (by rw [hframe]; exact hint) (by rw [hframe]; exact hnmi)
    (by rw [hframe]; exact hiff1) s.pins.intLow
  refine ⟨_, (step_of_asleep_noInput hinputs hreset hsleep hgrant hpulse).trans (congrArg Ending.result hsleeps),
    ?bit7, ?frame⟩
  case bit7 => exact hbit7.trans (by rw [hframe])
  case frame => rw [hwoken, hframe]

end

/-- Settles O53: the first part is the four steps above; in the second the step is `State.haltAsleep` from u
(`step_of_asleep`), which a latched NMI or an allowed INT ends (`State.haltAsleep_nmi`, `State.haltAsleep_int`). -/
theorem haltAsleepStep : Obligations.HaltAsleepStep := by
  refine ⟨fun s halone hinputs hreset hpulse hhalted hgrant hclock => ?listed,
    fun s u halone hreset hhalted hclock hms1 hms2 hu => ?any⟩
  case listed =>
    have hsleep : Asleep s := ⟨hhalted, hclock⟩
    exact ⟨step_asleep_undisturbed hinputs hreset hsleep hgrant hpulse,
      fun hint hnmi _ => step_asleep_busreq hinputs hreset hsleep hgrant hpulse hint hnmi,
      fun hint hnmi hiff1 hbus _ => step_asleep_intFalls hinputs hreset hsleep hgrant halone hint hnmi hiff1 hbus,
      step_asleep_intStays hinputs hreset hsleep hgrant halone hpulse⟩
  case any =>
    have hstep := step_of_asleep hreset ⟨hhalted, hclock⟩ hms1 hms2 hu
    have halone' : Alone u := by rw [hu, (State.sleepGrant_after _ s.coming).1, State.takeInput_frame]; exact halone
    refine ⟨fun hbus => hu.trans ((State.sleepGrant_after _ s.coming).2.1 hbus), fun hnmi => ?nmi,
      fun v hnmi hint hiff1 hshadow hv => ?int⟩
    case nmi =>
      obtain ⟨t, hsleeps, hstacks, hbit7, hcount, hframe⟩ := State.haltAsleep_nmi halone' hnmi s.pins.intLow
      exact ⟨t, hstep.trans (congrArg Ending.result hsleeps), hstacks, hbit7,
        fun h => hcount (State.intStayed_eq_false h), hframe⟩
    case int =>
      have hends := State.haltAsleep_int halone' hnmi hint hiff1 hshadow s.pins.intLow
      simp only [hv, ← Bool.not_eq_true, isRestartOpcode_iff_mem] at hends
      split at hends
      case isTrue h => rw [if_pos h, hstep]; exact hends
      case isFalse h =>
        rw [if_neg h]
        obtain ⟨t, hsleeps, hstacks, ⟨hmode0, hmode1, hmode2⟩, hframe⟩ := hends
        exact ⟨t, hstep.trans (congrArg Ending.result hsleeps), hstacks, hmode0, hmode1, hmode2, hframe⟩

/-! The bus grant. -/

/-- Settles O54: with the clock running BUSREQ comes before the MPU's own work, and the grant changes bus_granted,
memory and the trace alone (`State.grantBus_after`). -/
theorem busGrantStep : Obligations.BusGrantStep := by
  intro s x rest hinputs hreset hbus hclock hms
  obtain ⟨htaken, hcoming⟩ := s.takeInput_cons x rest hinputs
  have hmode : modeChanged s s.takeInput = false := by
    rw [htaken]
    cases hhalted : s.halted with
    | false => simp [modeChanged, hhalted]
    | true => exact modeChanged_eq_false (hms hhalted).1 (hms hhalted).2
  have hrunning : (s.takeInput.pins.busreqLow && s.takeInput.clockState == .running) = true := by
    simp [htaken, hbus, hclock]
  have hstep : step s = .next (s.takeInput.grantBus x.busWrites) := by
    rw [step, stepFrom, runFrom, hmode, hrunning, hcoming, htaken, hreset]
    rfl
  have hmem : (s.takeInput.storeAll x.busWrites).mem = (s.storeAll x.busWrites).mem :=
    State.storeAll_mem_congr _ (by rw [htaken]) (by rw [htaken])
  rw [State.grantBus_after, hmem, htaken] at hstep
  refine ⟨_, hstep, rfl, rfl, fun a v hw => ?stores⟩
  case stores =>
    have hone : (s.storeAll x.busWrites).mem = (s.storeByte a v).mem := by rw [hw]; rfl
    exact (storesAt_storeByte s a v).congr hone

end Sys2Proof.Machine
end

section
/-! PROOF. The family of spec/70_reset_and_hazards.md: RESET from the start of a step (R521, R527; spec/10_state.md
Table R48) and in the middle of one (R522; spec/20_memory.md R88). -/

namespace Sys2Proof.Machine

/-! RESET at the start of a step. -/

/-- Settles O55: RESET comes before every other event; the step is Reset(), and with BUSREQ at "0" a grant after it
(`State.grantBus_after`), which changes none of the registers. -/
theorem resetStep : Obligations.ResetStep := by
  intro s x rest hinputs hreset
  obtain ⟨htaken, hcoming⟩ := s.takeInput_cons x rest hinputs
  have hstep : step s = .next (s.takeInput.resetStep x.busWrites) := by
    rw [step, stepFrom, hcoming, htaken, hreset]
  rw [htaken, State.resetStep] at hstep
  cases hbus : x.pins.busreqLow with
  | false =>
    rw [if_neg (by simp [hbus])] at hstep
    exact ⟨_, hstep, rfl, rfl, rfl, rfl, rfl, rfl, rfl, rfl, rfl, rfl, hbus, rfl, rfl, rfl, rfl,
      fun _ => ⟨rfl, rfl⟩, nofun⟩
  | true =>
    rw [if_pos (by simp [hbus]), State.grantBus_after] at hstep
    exact ⟨_, hstep, rfl, rfl, rfl, rfl, rfl, rfl, rfl, rfl, rfl, rfl, rfl, rfl, rfl, rfl, rfl, nofun,
      fun _ => ⟨State.storeAll_mem_congr _ rfl rfl, rfl⟩⟩

/-! RESET in the middle of a step. -/

/-- A step that would have ended, or whose cycles RESET cuts, is abandoned (log entry 10). -/
theorem cutShort_abandons {t : State} {n : Nat} {corrupts : Bool} {e : Ending}
    (h : (∃ v, e = .next v) ∨ (cutAt n (cyclesSince t e.reached)).2 ≠ []) :
    cutShort t n corrupts e = .next (t.abandon e.reached n corrupts) := by
  unfold cutShort
  split
  case h_1 hleft | h_2 hleft => exact absurd h (by simp [hleft])
  case h_3 => rfl

/-- What is refused after all its cycles stays refused. -/
theorem cutShort_refused {t v : State} {n : Nat} {corrupts : Bool} {why : Refusal}
    (h : (cutAt n (cyclesSince t v)).2 = []) : cutShort t n corrupts (.refused why v) = .refused why := by
  unfold cutShort
  rw [Ending.reached, h]

/-- The bytes that an abandoned step writes are at addresses to which the whole step would have written. -/
theorem addresses_of_cut {done left : List BusCycle} {corrupts : Bool} {any : Byte} {a : Word}
    (h : ∀ w ∈ writesOf (done ++ left), w.1 ≠ a) : ∀ w ∈ writesOf done ++ cutWrite left corrupts any, w.1 ≠ a := by
  intro w hw
  rw [writesOf_append] at h
  rcases List.mem_append.mp hw with hdone | hcut
  · exact h w (List.mem_append_left _ hdone)
  · obtain ⟨u, hu, haddr⟩ := cutWrite_mem left corrupts any w hcut
    rw [← haddr]
    exact h u (List.mem_append_right _ hu)

/-- Settles O56: the step is `State.abandon` (`cutShort_abandons`), whose memory and trace are `State.abandon_after`,
and whose registers are those of Reset(); or the refusal stands (`cutShort_refused`). -/
theorem resetDuringStep : Obligations.ResetDuringStep := by
  intro s x rest n corrupts e done left hinputs hreset hrun hcut
  obtain ⟨htaken, -⟩ := s.takeInput_cons x rest hinputs
  have hstep : step s = cutShort s.takeInput n corrupts e := by
    have hpin : s.takeInput.pins.reset = .during n corrupts := by rw [htaken]; exact hreset
    rw [step, stepFrom, hpin, ← hrun]
  have hcut' : cutAt n (cyclesSince s.takeInput e.reached) = (done, left) := by rw [htaken]; exact hcut
  refine ⟨fun hends => ?abandoned, fun why v he hleft => ?refused⟩
  case abandoned =>
    obtain ⟨hmem, htrace, hpins, hinputs', -, -⟩ := State.abandon_after _ _ n corrupts done left hcut'
    have hstores : ∀ ws, (s.takeInput.storeAll ws).mem = (s.storeAll ws).mem := fun ws =>
      State.storeAll_mem_congr ws (by rw [htaken]) (by rw [htaken])
    rw [hstores] at hmem
    refine ⟨_, hstep.trans (cutShort_abandons (by rwa [hcut'])), rfl, rfl, rfl, rfl, rfl, rfl, rfl, rfl, rfl, rfl,
      ?pins, ?inputs, ⟨_, hmem⟩, fun a ha => ?kept, ?trace⟩
    case pins => rw [hpins, htaken]
    case inputs => rw [hinputs', htaken]
    case kept =>
      rw [hmem]
      exact State.storeAll_byteAt_other _ s _ fun w hw => mt BitVec.eq_of_toNat_eq (addresses_of_cut ha w hw)
    case trace => rw [htrace, htaken]
  case refused =>
    subst he
    rw [hstep]
    exact cutShort_refused (by rw [Ending.reached] at hcut'; rw [hcut']; exact hleft)

end Sys2Proof.Machine
end
